-- ==== Sys2Proof/Word.lean ====
section
/-! DEFINITION. The widths the spec gives its values (spec/00_scope.md R8, spec/30_encoding.md R80, spec/60_exceptions.md R200, R211). All values are unsigned (R9). -/

namespace Sys2Proof

/-- A shadow register, a device register, a data byte and a register address are 8 bits wide (R8). -/
abbrev Byte := BitVec 8

/-- A measurement value, an operand, `RESULT` and `rsp_data` are 16 bits wide (R8, R82, R32). -/
abbrev Half := BitVec 16

/-- A command word is one parallel 64-bit value (R80). -/
abbrev CmdWord := BitVec 64

/-- A sample of `ms_now[31:0]` (R5, R211). -/
abbrev Millis := BitVec 32

/-- The response flags `F`, `rsp_flags` and `STICKY` (R31, R200). -/
abbrev Flags := BitVec 4

end Sys2Proof
end

