-- ==== Sys2Proof/Syntax.lean ====
section
/-! DEFINITION. The 25 commands of spec/30_encoding.md R83, one constructor per row of spec/opcode_table.json, with the operands its row uses (R82, R84). -/

namespace Sys2Proof

/-- One command of RSC command set 1 (R83). An operand has the width R82 gives it, so that every value of this type has
a command word; COLOR_COMP_EN's operand is the one bit `P = A[0]`. -/
inductive Instr where
  /-- BEGIN, opcode 0x01 (R100) -/
  | beginInit
  /-- SET_PROX_RATE, opcode 0x10, `A` = rate (R111) -/
  | setProxRate (a : Half)
  /-- SET_INT_PERSIST, opcode 0x11, `A` = persistence (R113) -/
  | setIntPersist (a : Half)
  /-- PROX_OFFSET_EN, opcode 0x12 (R115) -/
  | proxOffsetEn
  /-- PROX_OFFSET_DIS, opcode 0x13 (R116) -/
  | proxOffsetDis
  /-- PROX_INT_EN, opcode 0x14, `A` = top, `B` = bottom (R118) -/
  | proxIntEn (a b : Half)
  /-- PROX_INT_DIS, opcode 0x15 (R119) -/
  | proxIntDis
  /-- ALS_INT_EN, opcode 0x16, `A` = top, `B` = bottom (R120) -/
  | alsIntEn (a b : Half)
  /-- ALS_INT_DIS, opcode 0x17 (R121) -/
  | alsIntDis
  /-- COLOR_COMP_EN, opcode 0x18, `P` = `A[0]` (R122) -/
  | colorCompEn (p : BitVec 1)
  /-- SET_ADC_GAIN, opcode 0x19, `A` = gain in fA (R124) -/
  | setAdcGain (a : Half)
  /-- SET_ALS_RATE, opcode 0x1A, `A` = rate (R126) -/
  | setAlsRate (a : Half)
  /-- UPDATE, opcode 0x20 (R152) -/
  | update
  /-- GET_PROX_RAW, opcode 0x21 (R153) -/
  | getProxRaw
  /-- GET_ALS_RAW, opcode 0x22 (R154) -/
  | getAlsRaw
  /-- GET_BLUE1_RAW, opcode 0x23 (R155) -/
  | getBlue1Raw
  /-- GET_BLUE2_RAW, opcode 0x24 (R156) -/
  | getBlue2Raw
  /-- ONDEMAND_PROX, opcode 0x28 (R172) -/
  | ondemandProx
  /-- ONDEMAND_ALS, opcode 0x29 (R173) -/
  | ondemandAls
  /-- GET_GAIN_FACTOR, opcode 0x30 (R190) -/
  | getGainFactor
  /-- READ_SH_PROX, opcode 0x31 (R191) -/
  | readShProx
  /-- READ_SH_IRED, opcode 0x32 (R192) -/
  | readShIred
  /-- READ_SH_ALS, opcode 0x33 (R193) -/
  | readShAls
  /-- READ_SH_INT, opcode 0x34 (R194) -/
  | readShInt
  /-- GET_STATUS, opcode 0x35 (R195) -/
  | getStatus
deriving DecidableEq, Repr

end Sys2Proof
end

