-- ==== Sys2Proof/Decode.lean ====
section
/-! DEFINITION. Decoding a command word (spec/30_encoding.md R81 to R86), total, refusing an illegal word by name; and after it the encoder of R89. -/

namespace Sys2Proof

/-- Why a word matches no row of R84. Each of them is the one condition ILLEGAL_CMD of R85; the names say which of
R85's two cases it is, and where the offending bit stands. -/
inductive DecodeError where
  /-- the opcode is one of the 231 unassigned ones (R85) -/
  | unassignedOpcode
  /-- the opcode is assigned, and a bit of RSV0 or RSV1 is 1 (R81, R85) -/
  | reservedBitSet
  /-- the opcode is assigned, and an operand bit its row does not use is 1 (R82, R85) -/
  | unusedOperandBitSet
deriving DecidableEq, Repr

/-- `OPC`, bits 7:0 (R81). -/
def opcOf (w : CmdWord) : Byte := w.extractLsb' 0 8

/-- `RSV0`, bits 15:8 (R81). -/
def rsv0Of (w : CmdWord) : Byte := w.extractLsb' 8 8

/-- `A`, bits 31:16 (R81, R82). -/
def operandA (w : CmdWord) : Half := w.extractLsb' 16 16

/-- `B`, bits 47:32 (R81, R82). -/
def operandB (w : CmdWord) : Half := w.extractLsb' 32 16

/-- `RSV1`, bits 63:48 (R81). -/
def rsv1Of (w : CmdWord) : Half := w.extractLsb' 48 16

/-- The four operand uses of R84's table. -/
inductive OperandUse where
  /-- no operand bit is used -/
  | unused
  /-- `A` only -/
  | aOnly
  /-- `A` and `B` -/
  | aAndB
  /-- `A[0]` only (COLOR_COMP_EN) -/
  | pOnly
deriving DecidableEq, Repr

/-- The MASK of R84 for an operand use: a 1 in every bit that is not an operand bit the row uses. -/
def maskOf : OperandUse → CmdWord
  | .unused => 0xFFFFFFFFFFFFFFFF#64
  | .aOnly => 0xFFFFFFFF0000FFFF#64
  | .aAndB => 0xFFFF00000000FFFF#64
  | .pOnly => 0xFFFFFFFFFFFEFFFF#64

/-- A row of the opcode map (R83): the operand bits it uses, and the command it stands for, from `A` and `B`. -/
structure Row where
  /-- the operand bits the row uses -/
  use : OperandUse
  /-- the command of the row with these operands -/
  build : Half → Half → Instr

/-- The opcode map of R83; `none` for an unassigned opcode. -/
def rowOf (opc : Byte) : Option Row :=
  match opc.toNat with
  | 0x01 => some ⟨.unused, fun _ _ => .beginInit⟩
  | 0x10 => some ⟨.aOnly, fun a _ => .setProxRate a⟩
  | 0x11 => some ⟨.aOnly, fun a _ => .setIntPersist a⟩
  | 0x12 => some ⟨.unused, fun _ _ => .proxOffsetEn⟩
  | 0x13 => some ⟨.unused, fun _ _ => .proxOffsetDis⟩
  | 0x14 => some ⟨.aAndB, fun a b => .proxIntEn a b⟩
  | 0x15 => some ⟨.unused, fun _ _ => .proxIntDis⟩
  | 0x16 => some ⟨.aAndB, fun a b => .alsIntEn a b⟩
  | 0x17 => some ⟨.unused, fun _ _ => .alsIntDis⟩
  | 0x18 => some ⟨.pOnly, fun a _ => .colorCompEn (a.setWidth 1)⟩
  | 0x19 => some ⟨.aOnly, fun a _ => .setAdcGain a⟩
  | 0x1A => some ⟨.aOnly, fun a _ => .setAlsRate a⟩
  | 0x20 => some ⟨.unused, fun _ _ => .update⟩
  | 0x21 => some ⟨.unused, fun _ _ => .getProxRaw⟩
  | 0x22 => some ⟨.unused, fun _ _ => .getAlsRaw⟩
  | 0x23 => some ⟨.unused, fun _ _ => .getBlue1Raw⟩
  | 0x24 => some ⟨.unused, fun _ _ => .getBlue2Raw⟩
  | 0x28 => some ⟨.unused, fun _ _ => .ondemandProx⟩
  | 0x29 => some ⟨.unused, fun _ _ => .ondemandAls⟩
  | 0x30 => some ⟨.unused, fun _ _ => .getGainFactor⟩
  | 0x31 => some ⟨.unused, fun _ _ => .readShProx⟩
  | 0x32 => some ⟨.unused, fun _ _ => .readShIred⟩
  | 0x33 => some ⟨.unused, fun _ _ => .readShAls⟩
  | 0x34 => some ⟨.unused, fun _ _ => .readShInt⟩
  | 0x35 => some ⟨.unused, fun _ _ => .getStatus⟩
  | _ => none

/-- Every operand bit the row does not use is 0 (R82): "A command that uses no operand requires `A = 0` and `B = 0`. A
command that uses only A requires `B = 0`"; COLOR_COMP_EN requires `A[15:1] = 0` as well. -/
def unusedBitsClear (use : OperandUse) (a b : Half) : Bool :=
  match use with
  | .unused => a == 0#16 && b == 0#16
  | .aOnly => b == 0#16
  | .aAndB => true
  | .pOnly => a.extractLsb' 1 15 == 0#15 && b == 0#16

/-- The decode stage of R84, R87: the command a word stands for, or why it is illegal (R85). -/
def decode (w : CmdWord) : Except DecodeError Instr :=
  match rowOf (opcOf w) with
  | none => .error .unassignedOpcode
  | some r =>
    if rsv0Of w != 0#8 || rsv1Of w != 0#16 then .error .reservedBitSet
    else if unusedBitsClear r.use (operandA w) (operandB w) then .ok (r.build (operandA w) (operandB w))
    else .error .unusedOperandBitSet

/-- The opcode of a command (R83). -/
def opcodeOf : Instr → Byte
  | .beginInit => 0x01#8
  | .setProxRate _ => 0x10#8
  | .setIntPersist _ => 0x11#8
  | .proxOffsetEn => 0x12#8
  | .proxOffsetDis => 0x13#8
  | .proxIntEn _ _ => 0x14#8
  | .proxIntDis => 0x15#8
  | .alsIntEn _ _ => 0x16#8
  | .alsIntDis => 0x17#8
  | .colorCompEn _ => 0x18#8
  | .setAdcGain _ => 0x19#8
  | .setAlsRate _ => 0x1A#8
  | .update => 0x20#8
  | .getProxRaw => 0x21#8
  | .getAlsRaw => 0x22#8
  | .getBlue1Raw => 0x23#8
  | .getBlue2Raw => 0x24#8
  | .ondemandProx => 0x28#8
  | .ondemandAls => 0x29#8
  | .getGainFactor => 0x30#8
  | .readShProx => 0x31#8
  | .readShIred => 0x32#8
  | .readShAls => 0x33#8
  | .readShInt => 0x34#8
  | .getStatus => 0x35#8

/-- The operand bits a command's row uses (R83, R84). -/
def useOf : Instr → OperandUse
  | .beginInit => .unused
  | .setProxRate _ => .aOnly
  | .setIntPersist _ => .aOnly
  | .proxOffsetEn => .unused
  | .proxOffsetDis => .unused
  | .proxIntEn _ _ => .aAndB
  | .proxIntDis => .unused
  | .alsIntEn _ _ => .aAndB
  | .alsIntDis => .unused
  | .colorCompEn _ => .pOnly
  | .setAdcGain _ => .aOnly
  | .setAlsRate _ => .aOnly
  | .update => .unused
  | .getProxRaw => .unused
  | .getAlsRaw => .unused
  | .getBlue1Raw => .unused
  | .getBlue2Raw => .unused
  | .ondemandProx => .unused
  | .ondemandAls => .unused
  | .getGainFactor => .unused
  | .readShProx => .unused
  | .readShIred => .unused
  | .readShAls => .unused
  | .readShInt => .unused
  | .getStatus => .unused

/-- The value of the field `A` in a command's word (R82, R89). -/
def fieldA : Instr → Half
  | .setProxRate a => a
  | .setIntPersist a => a
  | .proxIntEn a _ => a
  | .alsIntEn a _ => a
  | .colorCompEn p => p.setWidth 16
  | .setAdcGain a => a
  | .setAlsRate a => a
  | .beginInit => 0#16
  | .proxOffsetEn => 0#16
  | .proxOffsetDis => 0#16
  | .proxIntDis => 0#16
  | .alsIntDis => 0#16
  | .update => 0#16
  | .getProxRaw => 0#16
  | .getAlsRaw => 0#16
  | .getBlue1Raw => 0#16
  | .getBlue2Raw => 0#16
  | .ondemandProx => 0#16
  | .ondemandAls => 0#16
  | .getGainFactor => 0#16
  | .readShProx => 0#16
  | .readShIred => 0#16
  | .readShAls => 0#16
  | .readShInt => 0#16
  | .getStatus => 0#16

/-- The value of the field `B` in a command's word (R82, R89). -/
def fieldB : Instr → Half
  | .proxIntEn _ b => b
  | .alsIntEn _ b => b
  | .beginInit => 0#16
  | .setProxRate _ => 0#16
  | .setIntPersist _ => 0#16
  | .proxOffsetEn => 0#16
  | .proxOffsetDis => 0#16
  | .proxIntDis => 0#16
  | .alsIntDis => 0#16
  | .colorCompEn _ => 0#16
  | .setAdcGain _ => 0#16
  | .setAlsRate _ => 0#16
  | .update => 0#16
  | .getProxRaw => 0#16
  | .getAlsRaw => 0#16
  | .getBlue1Raw => 0#16
  | .getBlue2Raw => 0#16
  | .ondemandProx => 0#16
  | .ondemandAls => 0#16
  | .getGainFactor => 0#16
  | .readShProx => 0#16
  | .readShIred => 0#16
  | .readShAls => 0#16
  | .readShInt => 0#16
  | .getStatus => 0#16

/-- R89: `encode(OPC, A, B) = zext_64(B) << 32 | zext_64(A) << 16 | zext_64(OPC)`. -/
def assembleWord (opc : Byte) (a b : Half) : CmdWord :=
  b.setWidth 64 <<< 32 ||| a.setWidth 64 <<< 16 ||| opc.setWidth 64

/-- The command word of a command (R89). -/
def encode (i : Instr) : CmdWord := assembleWord (opcodeOf i) (fieldA i) (fieldB i)

/-- The command the decoder reads from a table word: the word is one parallel 64-bit value (R80), so it is given to the
decoder as it stands, with every bit above `nbits` zero. DEDUCED, safe (log 13). -/
def decodeTableWord (nbits w : Nat) : Option Instr :=
  match decode (BitVec.ofNat 64 (w % 2 ^ nbits)) with
  | .ok i => some i
  | .error _ => none

end Sys2Proof
end

