-- ==== Sys2Proof/Config.lean ====
section
/-! DEFINITION. What an implementation fixes (the record `Cfg` of spec/00_scope.md R6) and the free values: what the environment answers where nothing in the state says so (spec/20_memory.md R58, spec/70_reset_and_hazards.md R243). -/

namespace Sys2Proof

/-- The two product decisions the source leaves to the implementer take one of these two values (R6; D18, D19). -/
inductive DefectPolicy where
  /-- the source's documented defect is kept -/
  | legacy
  /-- the defect is mended -/
  | fixed
deriving DecidableEq, Repr, Inhabited

/-- The implementation parameters of R6, in the order of its table. None of them changes while the block runs. -/
structure Cfg where
  /-- `DEV_ADDR7` -/
  devAddr7 : BitVec 7
  /-- `A_CMD` -/
  aCmd : Byte
  /-- `A_PROX_CFG` -/
  aProxCfg : Byte
  /-- `A_IRED_CFG` -/
  aIredCfg : Byte
  /-- `A_ALS_CFG` -/
  aAlsCfg : Byte
  /-- `A_ALS_COMP` -/
  aAlsComp : Byte
  /-- `A_INT_CFG` -/
  aIntCfg : Byte
  /-- `MEAS_BASE` -/
  measBase : Byte
  /-- `A_PTH_TOP_H` -/
  aPthTopH : Byte
  /-- `A_PTH_TOP_L` -/
  aPthTopL : Byte
  /-- `A_PTH_BOT_H` -/
  aPthBotH : Byte
  /-- `A_PTH_BOT_L` -/
  aPthBotL : Byte
  /-- `A_ATH_TOP_H` -/
  aAthTopH : Byte
  /-- `A_ATH_TOP_L` -/
  aAthTopL : Byte
  /-- `A_ATH_BOT_H` -/
  aAthBotH : Byte
  /-- `A_ATH_BOT_L` -/
  aAthBotL : Byte
  /-- `CMD_PERIODIC` -/
  cmdPeriodic : Byte
  /-- `CMD_ONDEMAND` -/
  cmdOndemand : Byte
  /-- `PINT_MASK` -/
  pintMask : Byte
  /-- `AINT_MASK` -/
  aintMask : Byte
  /-- `GAIN_CODE_200` -/
  gainCode200 : BitVec 2
  /-- `GAIN_CODE_800` -/
  gainCode800 : BitVec 2
  /-- `GAIN_CODE_3200` -/
  gainCode3200 : BitVec 2
  /-- `GAIN_CODE_25600` -/
  gainCode25600 : BitVec 2
  /-- `TH_HI_POLICY` -/
  thHiPolicy : DefectPolicy
  /-- `AINT_DIS_POLICY` -/
  aintDisPolicy : DefectPolicy
deriving DecidableEq, Repr, Inhabited

/-- What the bus port reports for one read transaction (R53, R55): no acknowledgement, and then no byte at all; or the
bytes. Ten bytes are the longest burst (R54); a read of `n` bytes delivers the first `n` of them.
DESIGN CHOICE, safe (log 10). -/
inductive ReadReply where
  /-- `ack = 0`: no byte is delivered -/
  | nack
  /-- `ack = 1`: the byte of register `addr + k` is `d[k]` -/
  | data (d : Vector Byte 10)
deriving DecidableEq, Repr, Inhabited

/-- The configuration of R6's REF column. "The REF values are not the sensor's values." It is what
`State.reset` carries (DESIGN CHOICE, unsafe for a claim about a real chip: log 1); one statement names it, and says so. -/
def Config.ref : Cfg :=
  { devAddr7 := 0x2A#7
    aCmd := 0x00#8, aProxCfg := 0x01#8, aIredCfg := 0x02#8, aAlsCfg := 0x03#8, aAlsComp := 0x04#8, aIntCfg := 0x05#8
    measBase := 0x10#8
    aPthTopH := 0x20#8, aPthTopL := 0x21#8, aPthBotH := 0x22#8, aPthBotL := 0x23#8
    aAthTopH := 0x24#8, aAthTopL := 0x25#8, aAthBotH := 0x26#8, aAthBotL := 0x27#8
    cmdPeriodic := 0x01#8, cmdOndemand := 0x02#8
    pintMask := 0x03#8, aintMask := 0x0C#8
    gainCode200 := 0#2, gainCode800 := 1#2, gainCode3200 := 2#2, gainCode25600 := 3#2
    thHiPolicy := .legacy, aintDisPolicy := .legacy }

/-- FREE VALUE (R58: "Each `WR` returns an ack ∈ {0, 1} the model does not choose"): the acknowledgement of the write
with this index, where the state does not give it. Safe (log 2). -/
opaque Config.freeAck : Nat → Bool

/-- FREE VALUE (R58: "an ack and, when ack = 1, n bytes, none of which the model chooses"): the reply to the read with
this index, where the state does not give it. Safe (log 2). -/
opaque Config.freeReply : Nat → ReadReply

/-- FREE VALUE (R211: the clock's "value at power-on is whatever the input presents"; R243: "draws constrained only by
`t_next ≥ t_prev`"): by how many milliseconds the counter advances before the clock sample with this index, where the
state does not give it. An advance is never negative, which is the constraint. Safe (log 4). -/
opaque Config.freeAdvance : Nat → Nat

end Sys2Proof
end

