-- ==== Sys2Proof/Machine/State.lean ====
section
/-! DEFINITION. The architectural state of the block (spec/10_state.md), as plain data; the reasons a step can stop; the state after power-on reset (R35). -/

namespace Sys2Proof.Machine

open Sys2Proof

/-- `GF_SEL`: one of the four gain entries of R27. -/
inductive GainEntry where
  /-- entry 0: 200 fA, factor 81.79 -/
  | fa200
  /-- entry 1: 800 fA, factor 22.17 -/
  | fa800
  /-- entry 2: 3200 fA, factor 6.02 -/
  | fa3200
  /-- entry 3: 25600 fA, factor 0.75 -/
  | fa25600
deriving DecidableEq, Repr

/-- `HS_STATE`: the state of the on-demand handshake (R30). -/
inductive HsState where
  /-- 0: no on-demand command has run since reset -/
  | idle
  /-- 1: the trigger was written and the done flag has not been seen; only while an on-demand command runs -/
  | triggered
  /-- 2: the last handshake saw the conversion-done flag -/
  | ready
  /-- 3: the last handshake ended by the 1000 ms timeout -/
  | timedOut
deriving DecidableEq, Repr

/-- The four shadow registers (R22 to R25). -/
inductive Shadow where
  /-- `SH.PROX` -/
  | prox
  /-- `SH.IRED` -/
  | ired
  /-- `SH.ALS` -/
  | als
  /-- `SH.INT` -/
  | int
deriving DecidableEq, Repr

/-- An on-demand command that is still polling: what R171 keeps inside the command (R21, R37). -/
structure InFlight where
  /-- the high-byte address `h` of its final read -/
  addr : Byte
  /-- its response flags `F` so far (R87) -/
  flags : Flags
deriving DecidableEq, Repr

/-- One entry of the transaction log (R67). Each bus transaction also names the device address the block presents with
it (R5, R56), which R67's short form leaves out (log 7). -/
inductive LogEntry where
  /-- `W(addr, v, ack)` -/
  | write (dev : BitVec 7) (addr v : Byte) (ack : Bool)
  /-- `R(addr, n, ack, d[0..n-1])`, `d` empty when `ack = 0` -/
  | read (dev : BitVec 7) (addr : Byte) (n : Nat) (ack : Bool) (d : List Byte)
  /-- `T(t)`, a clock sample -/
  | clock (t : Millis)
deriving DecidableEq, Repr

/-- What the world outside presents to the block: command words, one at a time (R5 port 1), and power-on reset, between
commands or in the course of one (R230, R232). -/
inductive HostEvent where
  /-- the host drives `cmd_valid` with this word on `cmd_word[63:0]` -/
  | command (w : CmdWord)
  /-- power-on reset. It arrives at once in a block that executes no command; a command at work it cuts right after the
  first `after` transactions and clock samples the command makes from now on, and if the command responds before that, it
  arrives then (R230, R232; log 6) -/
  | reset (after : Nat)
deriving DecidableEq, Repr

/-- The inputs of the block: the MODEL's own state, not the spec's. Each list holds inputs that are already fixed, the
next one first; past its end the input is a FREE VALUE of Config, applied to the counter beside the list (log 2, 4, 5). -/
structure Env where
  /-- what the host has yet to present -/
  events : List HostEvent
  /-- acknowledgements of the coming bus writes -/
  acks : List Bool
  /-- bus writes answered so far -/
  acksDrawn : Nat
  /-- replies to the coming bus reads -/
  replies : List ReadReply
  /-- bus reads answered so far -/
  repliesDrawn : Nat
  /-- the millisecond counter at the last clock sample, before it is cut to 32 bits (R5, R243) -/
  now : Nat
  /-- by how much the counter advances before each coming sample of `ms_now`: never negative (R243) -/
  advances : List Nat
  /-- clock samples taken so far -/
  clocksDrawn : Nat
deriving DecidableEq, Repr

/-- The whole state: the architectural state of R20 and R34, the command in flight (R21, R37), the transaction log
(R67), the parameters (R6, constant) and the inputs. -/
structure State where
  /-- `SH.PROX` (R22) -/
  shProx : Byte
  /-- `SH.IRED` (R23) -/
  shIred : Byte
  /-- `SH.ALS` (R24) -/
  shAls : Byte
  /-- `SH.INT` (R25) -/
  shInt : Byte
  /-- `GF_SEL` (R27) -/
  gfSel : GainEntry
  /-- `CC_MODE` (R28) -/
  ccMode : Bool
  /-- `C.PROX` (R29) -/
  cProx : Half
  /-- `C.ALS` (R29) -/
  cAls : Half
  /-- `C.BLUE1` (R29) -/
  cBlue1 : Half
  /-- `C.BLUE2` (R29) -/
  cBlue2 : Half
  /-- `HS_STATE` (R30) -/
  hsState : HsState
  /-- `T0` (R30) -/
  t0 : Millis
  /-- `STICKY` (R31) -/
  sticky : Flags
  /-- `RESULT` (R32) -/
  result : Half
  /-- `cmd_ready` (R34) -/
  cmdReady : Bool
  /-- `rsp_valid` (R34) -/
  rspValid : Bool
  /-- `rsp_flags` (R34) -/
  rspFlags : Flags
  /-- `rsp_data` (R34) -/
  rspData : Half
  /-- the on-demand command that is still polling, if any (R21, R37; log 3) -/
  inFlight : Option InFlight
  /-- the transaction log since power-on reset, oldest entry first (R67; log 7) -/
  log : List LogEntry
  /-- the parameters (R6); no step changes them -/
  cfg : Cfg
  /-- the inputs (the model's own) -/
  env : Env
deriving DecidableEq, Repr

/-- Why the machine stops with a fault. There is NO such reason, and so no constructor: "The block has no trap mechanism"
(R207), "No condition is fatal to the driver's lifecycle" (R203). Nobody raises one; safe. -/
inductive Fault where
deriving DecidableEq, Repr

/-- Why a step is refused. -/
inductive Refusal where
  /-- An instruction without a meaning. No arm of `exec` raises it: every command has its meaning. Safe. -/
  | notModelled (mnemonic : String)
  /-- The configuration breaks a constraint of R7: "A model refuses a configuration that breaks one of them". Raised by
  `step`, before anything else it does, in every state with such a configuration. Safe (log 11). -/
  | illFormedConfig
deriving DecidableEq, Repr

/-- Nothing is fixed about the inputs: every one of them is free. DESIGN CHOICE (log 2, 4, 5). -/
def Env.empty : Env :=
  { events := [], acks := [], acksDrawn := 0, replies := [], repliesDrawn := 0, now := 0, advances := []
    clocksDrawn := 0 }

/-- The state of R35 right after power-on reset, for a configuration. -/
def State.powerOn (c : Cfg) : State :=
  { shProx := 0x00#8, shIred := 0x00#8, shAls := 0x00#8, shInt := 0x00#8
    gfSel := .fa200, ccMode := false
    cProx := 0x0000#16, cAls := 0x0000#16, cBlue1 := 0x0000#16, cBlue2 := 0x0000#16
    hsState := .idle, t0 := 0x00000000#32
    sticky := 0b0000#4, result := 0x0000#16
    cmdReady := true, rspValid := false, rspFlags := 0b0000#4, rspData := 0x0000#16
    inFlight := none, log := []
    cfg := c, env := Env.empty }

/-- The machine right after reset (R35, R230). Its configuration is the REF column of R6 (DESIGN CHOICE, unsafe: log 1). -/
def State.reset : State := State.powerOn Config.ref

end Sys2Proof.Machine
end

