-- ==== Sys2Proof/Machine/Flags.lean ====
section
/-! DEFINITION. The four error conditions (spec/60_exceptions.md R200) and the STATUS view (spec/10_state.md R33). -/

namespace Sys2Proof.Machine

open Sys2Proof

/-- Bit 0, BUS_ERR: "a bus transaction completed with ack = 0" (R200). -/
def busErr : Flags := 0b0001#4

/-- Bit 1, TIMEOUT: the done flag was never observed within the bound (R200). -/
def timeoutErr : Flags := 0b0010#4

/-- Bit 2, ILLEGAL_CMD: the word matches no row (R200). -/
def illegalCmd : Flags := 0b0100#4

/-- Bit 3, INVALID_OPERAND: a zero operand where the encoder is undefined (R200). -/
def invalidOperand : Flags := 0b1000#4

/-- `raise E` (R10): set the bit of a condition in the command's flags. -/
def raiseFlag (e f : Flags) : Flags := f ||| e

/-- `if ack = 0: raise BUS_ERR`, the one use every command makes of an acknowledgement (R202). -/
def raiseUnlessAcked (ack : Bool) (f : Flags) : Flags := if ack then f else raiseFlag busErr f

/-- The number of a gain entry (R27). -/
def gainIndex : GainEntry → BitVec 2
  | .fa200 => 0#2
  | .fa800 => 1#2
  | .fa3200 => 2#2
  | .fa25600 => 3#2

/-- The number of a handshake state (R30). -/
def hsIndex : HsState → BitVec 2
  | .idle => 0#2
  | .triggered => 1#2
  | .ready => 2#2
  | .timedOut => 3#2

/-- `STATUS = zext_16({HS_STATE[1:0], GF_SEL[1:0], CC_MODE, STICKY[3:0]})` (R33). -/
def statusWord (s : State) : Half :=
  (hsIndex s.hsState ++ gainIndex s.gfSel ++ BitVec.ofBool s.ccMode ++ s.sticky).setWidth 16

end Sys2Proof.Machine
end

