-- ==== Sys2Proof/Machine/Operands.lean ====
section
/-! DEFINITION. The field encoders, lookups and decoders of the command rules (spec/41_configuration.md R112, R114, R117, R123, R125; spec/42_measurement_update.md R150, R151; spec/10_state.md R27). -/

namespace Sys2Proof.Machine

open Sys2Proof

/-- `PRateCode(A) = floor(log2(min(A, 256)))`, for `A ≥ 1` (R112). -/
def pRateCode (a : Half) : Nat := Nat.log2 (min a.toNat 256)

/-- `PersCode(A)`: "the bit position of the highest set bit of min(A, 128)", for `A ≥ 1` (R114). -/
def persCode (a : Half) : Nat := Nat.log2 (min a.toNat 128)

/-- `ARateCode(A) = min(A, 8) - 1`, for `A ≥ 1` (R125). -/
def aRateCode (a : Half) : Nat := min a.toNat 8 - 1

/-- `zext_8` of a small code (R111, R113, R126). -/
def codeByte (n : Nat) : Byte := BitVec.ofNat 8 n

/-- `ThLo(v) = v[7:0]` (R117). -/
def thLo (v : Half) : Byte := v.extractLsb' 0 8

/-- `ThHi(v)`: 0x00 under LEGACY, `v[15:8]` under FIXED (R117). -/
def thHi (p : DefectPolicy) (v : Half) : Byte :=
  match p with
  | .legacy => 0x00#8
  | .fixed => v.extractLsb' 8 8

/-- `GainSel(A)` (R123): by exact match, and entry 0 for any other value. -/
def gainSel (a : Half) : GainEntry :=
  if a = 800#16 then .fa800
  else if a = 3200#16 then .fa3200
  else if a = 25600#16 then .fa25600
  else .fa200

/-- `GAIN_CODE[s]` (R123). -/
def gainCode (c : Cfg) : GainEntry → BitVec 2
  | .fa200 => c.gainCode200
  | .fa800 => c.gainCode800
  | .fa3200 => c.gainCode3200
  | .fa25600 => c.gainCode25600

/-- `GF_X100` (R27): the gain factor times 100, exact. -/
def gfX100 : GainEntry → Half
  | .fa200 => 8179#16
  | .fa800 => 2217#16
  | .fa3200 => 602#16
  | .fa25600 => 75#16

/-- `Pair(h, l) = (zext_16(h) << 8) | zext_16(l)` (R150). -/
def pair (h l : Byte) : Half := h.setWidth 16 <<< 8 ||| l.setWidth 16

/-- `BurstLen = 10 if CC_MODE = 1 else 4` (R151). -/
def burstLen (ccMode : Bool) : Nat := if ccMode then 10 else 4

/-- `1 + 2*P`, the ALS-Compensation value (R122). -/
def compensationValue (p : BitVec 1) : Byte := 1#8 + 2#8 * p.setWidth 8

/-- Bit 6 of the poll byte, the conversion-done flag (R170, R171); a poll that is not acknowledged is not done. -/
def pollDone : ReadReply → Bool
  | .nack => false
  | .data d => d[0].getLsbD 6

/-- `ack` of a read (R53). -/
def replyAcked : ReadReply → Bool
  | .nack => false
  | .data _ => true

/-- `d[0..n-1]` of a read of `n` bytes; empty when it is not acknowledged (R53, R67). -/
def replyBytes (n : Nat) : ReadReply → List Byte
  | .nack => []
  | .data d => d.toList.take n

/-- `trunc_32(t - T0) > 1000`: strictly more than 1000 ms since the trigger, modulo 2^32 (R171). -/
def pastDeadline (t t0 : Millis) : Bool := decide (1000#32 < t - t0)

end Sys2Proof.Machine
end

