-- ==== Sys2Proof/Machine/Ops.lean ====
section
/-! DEFINITION. The named operations on the state: the primitives of spec/00_scope.md R10 (shadow registers, `MemWrite`, `MemRead`, `Now`, `raise`, `respond`, `abort`), `FieldWrite` of spec/41_configuration.md R110, the accept and done stages of spec/30_encoding.md R87, and power-on reset (spec/70_reset_and_hazards.md R230, R232). The block has no trap and no return from one (R207, R208); `abortWith` is the one way a condition ends a command. -/

namespace Sys2Proof.Machine

open Sys2Proof

/-! ## The inputs -/

/-- The acknowledgement the `k`-th coming write gets: as fixed, or else free (R58). -/
def Env.ackAt (e : Env) (k : Nat) : Bool := e.acks[k]?.getD (Config.freeAck (e.acksDrawn + k))

/-- The reply the `k`-th coming read gets: as fixed, or else free (R58). -/
def Env.replyAt (e : Env) (k : Nat) : ReadReply := e.replies[k]?.getD (Config.freeReply (e.repliesDrawn + k))

/-- By how much the counter advances before the `k`-th coming clock sample: as fixed, or else free (R211, R243). -/
def Env.advanceAt (e : Env) (k : Nat) : Nat := e.advances[k]?.getD (Config.freeAdvance (e.clocksDrawn + k))

/-- The counter after `k` more clock samples: "monotonically non-decreasing" (R5, R211), `t_next ≥ t_prev` (R243). -/
def Env.counterAfter (e : Env) : Nat → Nat
  | 0 => e.now
  | k + 1 => e.counterAfter k + e.advanceAt k

/-- The value the `k`-th coming clock sample sees: the counter on `ms_now[31:0]`, so that across a 32-bit wrap the order
of R243 "is read modulo 2^32". -/
def Env.clockAt (e : Env) (k : Nat) : Millis := BitVec.ofNat 32 (e.counterAfter (k + 1))

/-- The inputs after `k` more writes have been answered. -/
def Env.dropAcks (e : Env) (k : Nat) : Env := { e with acks := e.acks.drop k, acksDrawn := e.acksDrawn + k }

/-- The inputs after `k` more reads have been answered. -/
def Env.dropReplies (e : Env) (k : Nat) : Env :=
  { e with replies := e.replies.drop k, repliesDrawn := e.repliesDrawn + k }

/-- The inputs after `k` more clock samples. -/
def Env.dropClocks (e : Env) (k : Nat) : Env :=
  { e with now := e.counterAfter k, advances := e.advances.drop k, clocksDrawn := e.clocksDrawn + k }

/-- The inputs after the host's first pending event has been taken. -/
def Env.dropEvent (e : Env) : Env := { e with events := e.events.tail }

/-- The inputs after one more transaction or clock sample, of the kind of this log entry (R67). -/
def Env.dropEntry (e : Env) : LogEntry → Env
  | .write _ _ _ _ => e.dropAcks 1
  | .read _ _ _ _ _ => e.dropReplies 1
  | .clock _ => e.dropClocks 1

/-- The inputs after these transactions and clock samples, in order (R60, R67). -/
def Env.dropEntries (e : Env) (new : List LogEntry) : Env := new.foldl Env.dropEntry e

/-! ## Reads and writes of the block's own registers -/

/-- `SH.X` (R10, R22 to R25). -/
def State.shadow (s : State) : Shadow → Byte
  | .prox => s.shProx
  | .ired => s.shIred
  | .als => s.shAls
  | .int => s.shInt

/-- `SH.X <- v` (R10). -/
def State.setShadow (s : State) (x : Shadow) (v : Byte) : State :=
  match x with
  | .prox => { s with shProx := v }
  | .ired => { s with shIred := v }
  | .als => { s with shAls := v }
  | .int => { s with shInt := v }

/-- `GF_SEL <- g` (R27). -/
def State.setGfSel (s : State) (g : GainEntry) : State := { s with gfSel := g }

/-- `CC_MODE <- 1` (R28, R122): the only write of it. -/
def State.enableCc (s : State) : State := { s with ccMode := true }

/-- `C.PROX <- p; C.ALS <- a` (R152). -/
def State.setProxAls (s : State) (p a : Half) : State := { s with cProx := p, cAls := a }

/-- `C.BLUE1 <- b1; C.BLUE2 <- b2` (R152). -/
def State.setBlues (s : State) (b1 b2 : Half) : State := { s with cBlue1 := b1, cBlue2 := b2 }

/-- `HS_STATE <- h` (R30). -/
def State.setHs (s : State) (h : HsState) : State := { s with hsState := h }

/-- `T0 <- t` (R30). -/
def State.setT0 (s : State) (t : Millis) : State := { s with t0 := t }

/-- `RESULT <- v` (R32). -/
def State.setResult (s : State) (v : Half) : State := { s with result := v }

/-- Append one entry to the transaction log (R67). -/
def State.append (s : State) (x : LogEntry) : State := { s with log := s.log ++ [x] }

/-- Replace the inputs. -/
def State.setEnv (s : State) (e : Env) : State := { s with env := e }

/-! ## The ports -/

/-- `ack <- MemWrite(addr, 1, v)` (R10, R52): one write transaction. -/
def memWrite (addr v : Byte) (s : State) : Bool × State :=
  let ack := s.env.ackAt 0
  (ack, (s.setEnv (s.env.dropAcks 1)).append (.write s.cfg.devAddr7 addr v ack))

/-- `(ack, d[0..n-1]) <- MemRead(addr, n)` (R10, R53): one burst read. -/
def memRead (addr : Byte) (n : Nat) (s : State) : ReadReply × State :=
  let r := s.env.replyAt 0
  (r, (s.setEnv (s.env.dropReplies 1)).append (.read s.cfg.devAddr7 addr n (replyAcked r) (replyBytes n r)))

/-- `t <- Now()` (R10, R67): one clock sample. -/
def clockNow (s : State) : Millis × State :=
  let t := s.env.clockAt 0
  (t, (s.setEnv (s.env.dropClocks 1)).append (.clock t))

/-- The accept stage of R87: `cmd_ready <- 0; rsp_valid <- 0`. The word leaves the host's pending events. -/
def State.accept (s : State) : State :=
  { s with cmdReady := false, rspValid := false, env := s.env.dropEvent }

/-- `respond(F, RESULT)` (R10, R201) and `cmd_ready <- 1` (R87): the end of every command. -/
def State.respond (s : State) (f : Flags) : State :=
  { s with rspFlags := f, rspData := s.result, rspValid := true, sticky := s.sticky ||| f
           cmdReady := true, inFlight := none }

/-- `raise E; abort` and then the response (R85, R88, R204): no other state changes and no transaction is issued. The
one shared operation by which a condition ends a command before its execute stage. -/
def State.abortWith (s : State) (e : Flags) : State := s.respond (raiseFlag e 0b0000#4)

/-- A command that waits for more of its input stays in flight: no response yet (R34, R175; log 3). -/
def State.suspend (s : State) (c : InFlight) : State :=
  { s with cmdReady := false, rspValid := false, inFlight := some c }

/-- Power-on reset (R230, R232): every piece of the block's state takes its value of R35 at once, with no response. The
parameters and the world outside stay; the event itself has been taken (log 6). -/
def State.powerOnReset (s : State) : State := (State.powerOn s.cfg).setEnv s.env.dropEvent

/-- What a command at work has put in the log since this state: its transactions and clock samples in order (R60, R67). -/
def State.entriesSince (s t : State) : List LogEntry := t.log.drop s.log.length

/-- The power-on reset that cuts a command, which would have taken the state to `t`, right after the first `n` of its
transactions and clock samples: the reset state at once and no response (R232). Only the inputs of these `n` are used up;
what the cut transaction did to the device is the device's alone (R58). -/
def State.cutAfter (s t : State) (n : Nat) : State :=
  { s with env := s.env.dropEntries ((s.entriesSince t).take n) }.powerOnReset

/-- A command at work, from `s` to `t`, that a power-on reset meets (R232; log 6): it is cut if it has made the transactions
and samples that the reset waits for; else, still polling, it brings the reset that much nearer; else it has responded. -/
def State.meetReset (s t : State) (n : Nat) : State :=
  let made := (s.entriesSince t).length
  if n ≤ made then s.cutAfter t n
  else if t.inFlight.isSome then t.setEnv { t.env with events := .reset (n - made) :: t.env.events.tail }
  else t

/-! ## Inside a command -/

/-- A command in its execute stage: its flags `F` (R87) and the state. -/
structure Run where
  /-- the command's flags `F` so far -/
  flags : Flags
  /-- the state -/
  state : State

/-- The start of the execute stage: `F = 0b0000` (R87). -/
def State.start (s : State) : Run := ⟨0b0000#4, s⟩

/-- Change the state inside a command. -/
def Run.modify (r : Run) (g : State → State) : Run := ⟨r.flags, g r.state⟩

/-- `if MemWrite(addr, 1, v) = 0: raise BUS_ERR`: a write never stops a command (R202). -/
def Run.write (r : Run) (addr v : Byte) : Run :=
  let p := memWrite addr v r.state
  ⟨raiseUnlessAcked p.1 r.flags, p.2⟩

/-- `FieldWrite(X, addr, mask, code)` (R110): the code is ORed as computed, NOT masked; the shadow is updated before the
write and keeps the new value when the write is not acknowledged. -/
def Run.fieldWrite (r : Run) (x : Shadow) (addr mask code : Byte) : Run :=
  let v := (r.state.shadow x &&& ~~~mask) ||| code
  (r.modify (fun s => s.setShadow x v)).write addr v

/-- The four threshold bytes of R118 and R120, in the order top high, top low, bottom high, bottom low. -/
def Run.writeThresholds (r : Run) (topH topL botH botL : Byte) (top bottom : Half) : Run :=
  let p := r.state.cfg.thHiPolicy
  (((r.write topH (thHi p top)).write topL (thLo top)).write botH (thHi p bottom)).write botL (thLo bottom)

/-- The done stage of R87. -/
def Run.finish (r : Run) : State := r.state.respond r.flags

/-- `RESULT <- v; respond(F, RESULT)`, the whole of a getter or an accessor (R153 to R156, R190 to R195). -/
def State.answer (s : State) (v : Half) : State := (s.setResult v).respond 0b0000#4

end Sys2Proof.Machine
end

