-- ==== Sys2Proof/Machine/Accessors.lean ====
section
/-! DEFINITION. The accessor commands (spec/44_accessors.md). None issues a bus transaction or writes a flag. -/

namespace Sys2Proof.Machine

open Sys2Proof

/-- GET_GAIN_FACTOR (R190): `GF_X100[GF_SEL]`. -/
def execGetGainFactor (s : State) : Host.Outcome State Fault Refusal := .next (s.answer (gfX100 s.gfSel))

/-- READ_SH_PROX (R191): the shadow, not the device register. -/
def execReadShProx (s : State) : Host.Outcome State Fault Refusal := .next (s.answer ((s.shadow .prox).setWidth 16))

/-- READ_SH_IRED (R192). -/
def execReadShIred (s : State) : Host.Outcome State Fault Refusal := .next (s.answer ((s.shadow .ired).setWidth 16))

/-- READ_SH_ALS (R193). -/
def execReadShAls (s : State) : Host.Outcome State Fault Refusal := .next (s.answer ((s.shadow .als).setWidth 16))

/-- READ_SH_INT (R194). -/
def execReadShInt (s : State) : Host.Outcome State Fault Refusal := .next (s.answer ((s.shadow .int).setWidth 16))

/-- GET_STATUS (R195): STATUS with `STICKY` as it stood before this command. -/
def execGetStatus (s : State) : Host.Outcome State Fault Refusal := .next (s.answer (statusWord s))

end Sys2Proof.Machine
end

