-- ==== Sys2Proof/Machine/Configuration.lean ====
section
/-! DEFINITION. The configuration commands (spec/41_configuration.md): each is a field write, or several writes, and a response. -/

namespace Sys2Proof.Machine

open Sys2Proof

/-- SET_PROX_RATE (R111). For a rate of 256 or more the code is 8, which the unmasked OR of R110 puts into bit 3. -/
def execSetProxRate (a : Half) (s : State) : Host.Outcome State Fault Refusal :=
  if a = 0#16 then .next (s.abortWith invalidOperand)
  else .next (s.start.fieldWrite .prox s.cfg.aProxCfg 0x07#8 (codeByte (pRateCode a))).finish

/-- SET_INT_PERSIST (R113). -/
def execSetIntPersist (a : Half) (s : State) : Host.Outcome State Fault Refusal :=
  if a = 0#16 then .next (s.abortWith invalidOperand)
  else .next (s.start.fieldWrite .int s.cfg.aIntCfg 0xE0#8 (codeByte (persCode a) <<< 5)).finish

/-- PROX_OFFSET_EN (R115): `SH.PROX[3] <- 1`. -/
def execProxOffsetEn (s : State) : Host.Outcome State Fault Refusal :=
  .next (s.start.fieldWrite .prox s.cfg.aProxCfg 0x08#8 0x08#8).finish

/-- PROX_OFFSET_DIS (R116): `SH.PROX[3] <- 0`. -/
def execProxOffsetDis (s : State) : Host.Outcome State Fault Refusal :=
  .next (s.start.fieldWrite .prox s.cfg.aProxCfg 0x08#8 0x00#8).finish

/-- PROX_INT_EN (R118): set both enable bits, then the four threshold bytes. -/
def execProxIntEn (a b : Half) (s : State) : Host.Outcome State Fault Refusal :=
  let c := s.cfg
  .next ((s.start.fieldWrite .int c.aIntCfg c.pintMask c.pintMask).writeThresholds
    c.aPthTopH c.aPthTopL c.aPthBotH c.aPthBotL a b).finish

/-- PROX_INT_DIS (R119): clear both enable bits. -/
def execProxIntDis (s : State) : Host.Outcome State Fault Refusal :=
  .next (s.start.fieldWrite .int s.cfg.aIntCfg s.cfg.pintMask 0x00#8).finish

/-- ALS_INT_EN (R120): set both enable bits, then the four threshold bytes. -/
def execAlsIntEn (a b : Half) (s : State) : Host.Outcome State Fault Refusal :=
  let c := s.cfg
  .next ((s.start.fieldWrite .int c.aIntCfg c.aintMask c.aintMask).writeThresholds
    c.aAthTopH c.aAthTopL c.aAthBotH c.aAthBotL a b).finish

/-- ALS_INT_DIS (R121): under LEGACY it SETS both enable bits, the source's defect; under FIXED it clears them. -/
def execAlsIntDis (s : State) : Host.Outcome State Fault Refusal :=
  let code := match s.cfg.aintDisPolicy with
    | .legacy => s.cfg.aintMask
    | .fixed => 0x00#8
  .next (s.start.fieldWrite .int s.cfg.aIntCfg s.cfg.aintMask code).finish

/-- COLOR_COMP_EN (R122): one write of 1 + 2*P, and `CC_MODE <- 1` whatever its acknowledgement. -/
def execColorCompEn (p : BitVec 1) (s : State) : Host.Outcome State Fault Refusal :=
  .next ((s.start.write s.cfg.aAlsComp (compensationValue p)).modify State.enableCc).finish

/-- SET_ADC_GAIN (R124): the gain entry and the gain field change together. -/
def execSetAdcGain (a : Half) (s : State) : Host.Outcome State Fault Refusal :=
  let g := gainSel a
  .next ((s.start.modify (fun s => s.setGfSel g)).fieldWrite .als s.cfg.aAlsCfg 0x18#8
    ((gainCode s.cfg g).setWidth 8 <<< 3)).finish

/-- SET_ALS_RATE (R126). -/
def execSetAlsRate (a : Half) (s : State) : Host.Outcome State Fault Refusal :=
  if a = 0#16 then .next (s.abortWith invalidOperand)
  else .next (s.start.fieldWrite .als s.cfg.aAlsCfg 0x07#8 (codeByte (aRateCode a))).finish

end Sys2Proof.Machine
end

