-- ==== Sys2Proof/Machine/Initialization.lean ====
section
/-! DEFINITION. BEGIN (spec/40_initialization.md R100). -/

namespace Sys2Proof.Machine

open Sys2Proof

/-- BEGIN (R100): three shadows and `GF_SEL` are zeroed and five writes are issued, whatever their acknowledgements.
`SH.INT`, `CC_MODE`, the cache, `HS_STATE`, `T0` and `RESULT` stay. -/
def execBegin (s : State) : Host.Outcome State Fault Refusal :=
  let c := s.cfg
  let r := (s.start.modify (fun s => s.setShadow .prox 0x00#8)).write c.aProxCfg 0x00#8
  let r := (r.modify (fun s => s.setShadow .ired 0x00#8)).write c.aIredCfg 0x00#8
  let r := (r.modify (fun s => (s.setShadow .als 0x00#8).setGfSel .fa200)).write c.aAlsCfg 0x00#8
  let r := r.write c.aAlsComp 0x00#8
  let r := r.write c.aCmd c.cmdPeriodic
  .next r.finish

end Sys2Proof.Machine
end

