-- ==== Sys2Proof/Machine/Measurement.lean ====
section
/-! DEFINITION. UPDATE and the raw getters (spec/42_measurement_update.md). -/

namespace Sys2Proof.Machine

open Sys2Proof

/-- The decode of an acknowledged burst (R152): two pairs, and with `CC_MODE = 1` the two blue pairs as well; bytes 4 and
5 are discarded. -/
def State.decodeBurst (s : State) (d : Vector Byte 10) : State :=
  let s := s.setProxAls (pair d[0] d[1]) (pair d[2] d[3])
  if s.ccMode then s.setBlues (pair d[6] d[7]) (pair d[8] d[9]) else s

/-- UPDATE (R152): one burst read; without an acknowledgement the cache stays. -/
def execUpdate (s : State) : Host.Outcome State Fault Refusal :=
  let p := memRead s.cfg.measBase (burstLen s.ccMode) s
  .next (match p.1 with
    | .nack => p.2.respond (raiseFlag busErr 0b0000#4)
    | .data d => (p.2.decodeBurst d).respond 0b0000#4)

/-- GET_PROX_RAW (R153). -/
def execGetProxRaw (s : State) : Host.Outcome State Fault Refusal := .next (s.answer s.cProx)

/-- GET_ALS_RAW (R154). -/
def execGetAlsRaw (s : State) : Host.Outcome State Fault Refusal := .next (s.answer s.cAls)

/-- GET_BLUE1_RAW (R155). -/
def execGetBlue1Raw (s : State) : Host.Outcome State Fault Refusal := .next (s.answer s.cBlue1)

/-- GET_BLUE2_RAW (R156). -/
def execGetBlue2Raw (s : State) : Host.Outcome State Fault Refusal := .next (s.answer s.cBlue2)

end Sys2Proof.Machine
end

