-- ==== Sys2Proof/Machine/OnDemand.lean ====
section
/-! DEFINITION. The on-demand handshake (spec/43_on_demand.md R170, R171) and its two commands (R172, R173). -/

namespace Sys2Proof.Machine

open Sys2Proof

/-- The end of `OnDemand(h)` on both exits of the loop (R171): the 2-byte read, and the response. -/
def Run.finalRead (r : Run) (h : Byte) : State :=
  let p := memRead h 2 r.state
  match p.1 with
  | .nack => p.2.respond (raiseFlag busErr r.flags)
  | .data d => (p.2.setResult (pair d[0] d[1])).respond r.flags

/-- At most `k` rounds of the poll loop of R171. A round polls, tests bit 6, and only then samples the clock; a poll that
is not acknowledged counts as not done. When `k` rounds have not ended the loop the command stays in flight (log 3). -/
def pollLoop : Nat → Byte → Run → State
  | 0, h, r => r.state.suspend ⟨h, r.flags⟩
  | k + 1, h, r =>
    let p := memRead r.state.cfg.aCmd 1 r.state
    if pollDone p.1 then Run.finalRead ⟨r.flags, p.2.setHs .ready⟩ h
    else
      let f := raiseUnlessAcked (replyAcked p.1) r.flags
      let q := clockNow p.2
      if pastDeadline q.1 q.2.t0 then Run.finalRead ⟨raiseFlag timeoutErr f, q.2.setHs .timedOut⟩ h
      else pollLoop k h ⟨f, q.2⟩

/-- How many rounds one step runs: as many as replies are already fixed, and at least one (R171: "at least one poll";
log 3). -/
def pollBudget (s : State) : Nat := max 1 s.env.replies.length

/-- `OnDemand(h)` up to the poll loop (R171): the trigger write, then the sample of `T0`, whatever the acknowledgement. -/
def onDemandTrigger (s : State) : Run :=
  let r := (s.setHs .triggered).start.write s.cfg.aCmd s.cfg.cmdOndemand
  let q := clockNow r.state
  ⟨r.flags, q.2.setT0 q.1⟩

/-- `OnDemand(h)` (R171) and the response, as far as one step takes it. -/
def onDemand (h : Byte) (s : State) : State :=
  let r := onDemandTrigger s
  pollLoop (pollBudget r.state) h r

/-- The next step of a command that is still polling (R171, R175). -/
def resumeCommand (c : InFlight) (s : State) : State := pollLoop (pollBudget s) c.addr ⟨c.flags, s⟩

/-- ONDEMAND_PROX (R172): the proximity high byte stands at `MEAS_BASE`. -/
def execOndemandProx (s : State) : Host.Outcome State Fault Refusal := .next (onDemand s.cfg.measBase s)

/-- ONDEMAND_ALS (R173): the ALS high byte stands at `MEAS_BASE + 2`. -/
def execOndemandAls (s : State) : Host.Outcome State Fault Refusal := .next (onDemand (s.cfg.measBase + 2#8) s)

end Sys2Proof.Machine
end

