-- ==== Sys2Proof/Machine/Dispatch.lean ====
section
/-! DEFINITION. The execute stage (spec/30_encoding.md R87): one arm per command of R83, each a call of its meaning. -/

namespace Sys2Proof.Machine

open Sys2Proof

def exec (i : Instr) (s : State) : Host.Outcome State Fault Refusal :=
  match i with
  | .beginInit => Sys2Proof.Machine.execBegin s
  | .setProxRate a => Sys2Proof.Machine.execSetProxRate a s
  | .setIntPersist a => Sys2Proof.Machine.execSetIntPersist a s
  | .proxOffsetEn => Sys2Proof.Machine.execProxOffsetEn s
  | .proxOffsetDis => Sys2Proof.Machine.execProxOffsetDis s
  | .proxIntEn a b => Sys2Proof.Machine.execProxIntEn a b s
  | .proxIntDis => Sys2Proof.Machine.execProxIntDis s
  | .alsIntEn a b => Sys2Proof.Machine.execAlsIntEn a b s
  | .alsIntDis => Sys2Proof.Machine.execAlsIntDis s
  | .colorCompEn p => Sys2Proof.Machine.execColorCompEn p s
  | .setAdcGain a => Sys2Proof.Machine.execSetAdcGain a s
  | .setAlsRate a => Sys2Proof.Machine.execSetAlsRate a s
  | .update => Sys2Proof.Machine.execUpdate s
  | .getProxRaw => Sys2Proof.Machine.execGetProxRaw s
  | .getAlsRaw => Sys2Proof.Machine.execGetAlsRaw s
  | .getBlue1Raw => Sys2Proof.Machine.execGetBlue1Raw s
  | .getBlue2Raw => Sys2Proof.Machine.execGetBlue2Raw s
  | .ondemandProx => Sys2Proof.Machine.execOndemandProx s
  | .ondemandAls => Sys2Proof.Machine.execOndemandAls s
  | .getGainFactor => Sys2Proof.Machine.execGetGainFactor s
  | .readShProx => Sys2Proof.Machine.execReadShProx s
  | .readShIred => Sys2Proof.Machine.execReadShIred s
  | .readShAls => Sys2Proof.Machine.execReadShAls s
  | .readShInt => Sys2Proof.Machine.execReadShInt s
  | .getStatus => Sys2Proof.Machine.execGetStatus s

end Sys2Proof.Machine
end

