-- ==== Sys2Proof/Machine/Control.lean ====
section
/-! DEFINITION. The execution cycle of spec/30_encoding.md R87 around the execute stage: accept, decode, execute or abort. It stands apart from Step.lean so that a later repair can mend it. -/

namespace Sys2Proof.Machine

open Sys2Proof

/-- Decode and execute one accepted word (R87): a word that matches no row is answered with ILLEGAL_CMD (R85); the
operand check of R88 stands in the meanings of the three commands it concerns. -/
def runAccepted (w : CmdWord) (s : State) : Host.Outcome State Fault Refusal :=
  match decode w with
  | .error _ => .next (s.abortWith illegalCmd)
  | .ok i => exec i s

/-- A command at work from `s`, met by a power-on reset if that is the host's next event (R232). -/
def underReset (s : State) (o : Host.Outcome State Fault Refusal) : Host.Outcome State Fault Refusal :=
  match s.env.events with
  | .reset n :: _ =>
    match o with
    | .next t => .next (s.meetReset t n)
    | .fault r => .fault r
    | .refused r => .refused r
  | _ => o

/-- One step of a block with a sound configuration. A command in flight goes on (R175), unless a power-on reset cuts it
(R232); an idle block takes a power-on reset (R230), or accepts a word when `cmd_valid` and `cmd_ready` are both 1 (R5,
R87) and runs it, unless a power-on reset cuts it; else nothing changes. -/
def runCycle (s : State) : Host.Outcome State Fault Refusal :=
  match s.inFlight, s.env.events with
  | some c, _ => underReset s (.next (resumeCommand c s))
  | none, .reset _ :: _ => .next s.powerOnReset
  | none, .command w :: _ => if s.cmdReady then underReset s.accept (runAccepted w s.accept) else .next s
  | none, [] => .next s

/-- The state with a word as the host's next event, in a block that is ready for it. -/
def presentWord (w : CmdWord) (s : State) : State :=
  { s with env := { s.env with events := .command w :: s.env.events }, cmdReady := true, inFlight := none }

end Sys2Proof.Machine
end

