-- ==== Sys2Proof/WellFormed.lean ====
section
/-! DEFINITION. The checks the spec makes on a configuration (spec/00_scope.md R7) and on a command's operands (spec/30_encoding.md R88). -/

namespace Sys2Proof

/-- "exactly two set bits, and the two bits are adjacent" (R7): the seven bytes of that form. -/
def twoAdjacentBits (m : Byte) : Bool :=
  [0x03#8, 0x06#8, 0x0C#8, 0x18#8, 0x30#8, 0x60#8, 0xC0#8].contains m

/-- "Neither mask overlaps bits 7:5 of Interrupt-Config, which hold persistence" (R7). -/
def clearOfPersistence (m : Byte) : Bool := m &&& 0xE0#8 == 0x00#8

/-- "The four gain codes are pairwise distinct" (R7). -/
def Cfg.gainCodesDistinct (c : Cfg) : Bool :=
  c.gainCode200 != c.gainCode800 && c.gainCode200 != c.gainCode3200 && c.gainCode200 != c.gainCode25600 &&
  c.gainCode800 != c.gainCode3200 && c.gainCode800 != c.gainCode25600 && c.gainCode3200 != c.gainCode25600

/-- The constraints a `Cfg` must meet, in the order of R7. -/
def Cfg.wellFormed (c : Cfg) : Bool :=
  twoAdjacentBits c.pintMask && twoAdjacentBits c.aintMask &&
  clearOfPersistence c.pintMask && clearOfPersistence c.aintMask &&
  c.pintMask &&& c.aintMask == 0x00#8 &&
  c.gainCodesDistinct && c.gainCode200 == 0#2 &&
  decide (c.measBase ≤ 0xF6#8)

/-- The operand checks of R88, "the only ones": a command that fails it is answered with INVALID_OPERAND. -/
def Instr.wellFormed : Instr → Bool
  | .setProxRate a => a != 0#16
  | .setIntPersist a => a != 0#16
  | .setAlsRate a => a != 0#16
  | .beginInit => true
  | .proxOffsetEn => true
  | .proxOffsetDis => true
  | .proxIntEn _ _ => true
  | .proxIntDis => true
  | .alsIntEn _ _ => true
  | .alsIntDis => true
  | .colorCompEn _ => true
  | .setAdcGain _ => true
  | .update => true
  | .getProxRaw => true
  | .getAlsRaw => true
  | .getBlue1Raw => true
  | .getBlue2Raw => true
  | .ondemandProx => true
  | .ondemandAls => true
  | .getGainFactor => true
  | .readShProx => true
  | .readShIred => true
  | .readShAls => true
  | .readShInt => true
  | .getStatus => true

end Sys2Proof
end

