-- ==== Sys2Proof/Machine/Step.lean ====
section
/-! DEFINITION. One step of the machine, and the placing of a command word where the next step takes it. -/

namespace Sys2Proof.Machine

open Sys2Proof

/-- One step. "A model refuses a configuration that breaks one of" the constraints of R7 (log 11); with a sound
configuration it is `runCycle`. -/
def step (s : State) : Host.Outcome State Fault Refusal :=
  if s.cfg.wellFormed then runCycle s else .refused .illFormedConfig

/-- The state in which the very next step accepts and runs this word: it is the host's next event, `cmd_ready` is 1 and
no command is in flight (log 5, log 13). -/
def State.withFetchWord (s : State) (nbits w : Nat) : State := presentWord (BitVec.ofNat 64 (w % 2 ^ nbits)) s

end Sys2Proof.Machine
end

