-- ==== Sys2Proof/Safety.lean ====
section
/-! DEFINITION. The terms that statements about the block use: the completed command, the legal transactions, the invariants of the state, and what a clean run is. Each is written from the spec's words, apart from the operations of the machine. -/

namespace Sys2Proof.Machine

open Sys2Proof

/-! ## A completed command -/

/-- What a response leaves (spec/00_scope.md R10, spec/30_encoding.md R87, spec/60_exceptions.md R201): the state with its
host port outputs driven, `STICKY` accumulated, `cmd_ready = 1` and no command in flight. -/
def doneWith (s : State) (f : Flags) : State :=
  { s with rspFlags := f, rspData := s.result, rspValid := true, cmdReady := true, inFlight := none
           sticky := s.sticky ||| f }

/-- The flags of a command whose transactions were all acknowledged (0), or were not (BUS_ERR, bit 0; R200, R202). -/
def nackFlag (allAcked : Bool) : Flags := if allAcked then 0b0000#4 else 0b0001#4

/-- The log entry of the `k`-th coming write (R67). -/
def writeEntry (s : State) (k : Nat) (addr v : Byte) : LogEntry := .write s.cfg.devAddr7 addr v (s.env.ackAt k)

/-- The log entry of a read with this reply (R67): "`d` is empty when ack = 0". -/
def readEntry (s : State) (addr : Byte) (n : Nat) (r : ReadReply) : LogEntry :=
  match r with
  | .nack => .read s.cfg.devAddr7 addr n false []
  | .data d => .read s.cfg.devAddr7 addr n true (d.toList.take n)

/-- The word is what the host presents, the block is ready for it and its configuration is sound (R5, R7). -/
structure Presents (s : State) (w : CmdWord) (rest : List HostEvent) : Prop where
  /-- the configuration meets R7 -/
  sound : s.cfg.wellFormed = true
  /-- `cmd_valid = 1`, and the word is on `cmd_word` -/
  pending : s.env.events = .command w :: rest
  /-- `cmd_ready = 1` -/
  ready : s.cmdReady = true
  /-- no command is executing -/
  idle : s.inFlight = none

/-- The state in which an accepted command runs (R87): `cmd_ready = 0`, `rsp_valid = 0`, the word taken. -/
def accepted (s : State) (rest : List HostEvent) : State :=
  { s with cmdReady := false, rspValid := false, env := { s.env with events := rest } }

/-! ## Power-on reset -/

/-- Whether the host's next event is a power-on reset (R230, R232). -/
def resetNext : List HostEvent → Bool
  | .reset _ :: _ => true
  | .command _ :: _ => false
  | [] => false

/-- A power-on reset was there for this step to meet, next or right behind the word before it, and the step left every piece
of the block's state at its reset value (R35, R232). The inputs, and the clock among them, are not the block's (R211). -/
def ResetTaken (s t : State) : Prop :=
  (resetNext s.env.events = true ∨ resetNext s.env.events.tail = true) ∧ t = { State.powerOn s.cfg with env := t.env }

/-- In this step the block works on a command, from `v` to `u` if no power-on reset cuts it: on a word it accepts, legal or
not (R85, R87), or on the command in flight (R175). -/
inductive Works (s : State) : State → State → Prop where
  /-- a word is accepted and decodes to a command -/
  | accepts (w : CmdWord) (rest : List HostEvent) (i : Instr) (u : State) (presents : Presents s w rest)
      (legal : decode w = .ok i) (answers : exec i (accepted s rest) = .next u) : Works s (accepted s rest) u
  /-- a word is accepted and is illegal -/
  | rejects (w : CmdWord) (rest : List HostEvent) (e : DecodeError) (presents : Presents s w rest)
      (illegal : decode w = .error e) : Works s (accepted s rest) (doneWith (accepted s rest) 0b0100#4)
  /-- the command in flight goes on -/
  | resumes (c : InFlight) (sound : s.cfg.wellFormed = true) (flying : s.inFlight = some c) :
      Works s s (resumeCommand c s)

/-! ## Legal transactions -/

/-- The registers the block writes (spec/20_memory.md R51). -/
def writableRegisters (c : Cfg) : List Byte :=
  [c.aCmd, c.aProxCfg, c.aIredCfg, c.aAlsCfg, c.aAlsComp, c.aIntCfg,
   c.aPthTopH, c.aPthTopL, c.aPthBotH, c.aPthBotL, c.aAthTopH, c.aAthTopL, c.aAthBotH, c.aAthBotL]

/-- The reads the block issues: start address and length (R54). -/
def legalReads (c : Cfg) : List (Byte × Nat) :=
  [(c.aCmd, 1), (c.measBase, 2), (c.measBase + 2#8, 2), (c.measBase, 4), (c.measBase, 10)]

/-- A transaction the rules allow: addressed to `DEV_ADDR7` (R5), a one-byte write of a register of R51 or a read of R54,
with exactly the bytes the acknowledgement gives it (R53). A clock sample always is one. -/
def legalEntry (c : Cfg) : LogEntry → Bool
  | .write dev a _ _ => dev == c.devAddr7 && (writableRegisters c).contains a
  | .read dev a n ack d => dev == c.devAddr7 && (legalReads c).contains (a, n) && d.length == (if ack then n else 0)
  | .clock _ => true

/-- Whether an entry is a write. -/
def LogEntry.isWrite : LogEntry → Bool
  | .write _ _ _ _ => true
  | .read _ _ _ _ _ => false
  | .clock _ => false

/-- Whether an entry is a read. -/
def LogEntry.isRead : LogEntry → Bool
  | .write _ _ _ _ => false
  | .read _ _ _ _ _ => true
  | .clock _ => false

/-- The value of a clock sample. -/
def LogEntry.sample? : LogEntry → Option Millis
  | .write _ _ _ _ => none
  | .read _ _ _ _ _ => none
  | .clock t => some t

/-! ## Invariants -/

/-- The shadow registers (spec/10_state.md R22 to R25) and the gain pairing (R27). -/
structure ShadowInv (s : State) : Prop where
  /-- `SH.PROX[7:4]`: "always 0" (R22) -/
  proxUnnamed : s.shProx.extractLsb' 4 4 = 0#4
  /-- "`SH.IRED` is always 0x00" (R23) -/
  iredZero : s.shIred = 0x00#8
  /-- `SH.ALS[7:5]`: "always 0" (R24) -/
  alsUnnamed : s.shAls.extractLsb' 5 3 = 0#3
  /-- `SH.INT`: "the remaining bit of 4:0" is "always 0" (R25) -/
  intUnnamed : s.shInt &&& ~~~(0xE0#8 ||| s.cfg.pintMask ||| s.cfg.aintMask) = 0x00#8
  /-- "No command sets or clears one bit of a pair alone" (R25): the proximity pair -/
  pintPair : s.shInt &&& s.cfg.pintMask = 0x00#8 ∨ s.shInt &&& s.cfg.pintMask = s.cfg.pintMask
  /-- and the ALS pair -/
  aintPair : s.shInt &&& s.cfg.aintMask = 0x00#8 ∨ s.shInt &&& s.cfg.aintMask = s.cfg.aintMask
  /-- "Invariant: `SH.ALS[4:3] = GAIN_CODE[GF_SEL]`" (R27) -/
  gainPaired : s.shAls.extractLsb' 3 2 = gainCode s.cfg s.gfSel

/-- "With `CC_MODE = 0`, `C.BLUE1` and `C.BLUE2` are not written" and hold 0 (spec/42_measurement_update.md R152). -/
structure CacheInv (s : State) : Prop where
  /-- before colour compensation is enabled the blue channels are 0 -/
  bluesZero : s.ccMode = false → s.cBlue1 = 0x0000#16 ∧ s.cBlue2 = 0x0000#16

/-- The values of `F` that occur (spec/60_exceptions.md R206). -/
def legalFlags : List Flags := [0b0000#4, 0b0001#4, 0b0010#4, 0b0011#4, 0b0100#4, 0b1000#4]

/-- The host port (R34), the handshake state (R30) and the flags (R31, R206). -/
structure PortInv (s : State) : Prop where
  /-- "`cmd_ready` is 1 when no command is executing" (R34) -/
  readyIffIdle : s.cmdReady = true ↔ s.inFlight = none
  /-- TRIGGERED is held "only while an on-demand command runs" (R30), and then it is -/
  triggeredIffInFlight : s.hsState = .triggered ↔ s.inFlight ≠ none
  /-- `rsp_valid` "is 1 except while a command executes" (R34): while one does, it is 0 -/
  silentInFlight : s.inFlight ≠ none → s.rspValid = false
  /-- "Every response drives `rsp_data <- RESULT`" (R32) -/
  dataIsResult : s.rspValid = true → s.rspData = s.result
  /-- "No other value occurs" (R206) -/
  flagsLegal : s.rspFlags ∈ legalFlags
  /-- a command that is still polling has raised BUS_ERR or nothing (R171) -/
  flightFlags : ∀ c, s.inFlight = some c → c.flags = 0b0000#4 ∨ c.flags = 0b0001#4
  /-- `STICKY` holds "the OR of the response flags of every command completed" (R31), the last one's among them -/
  stickyHolds : s.sticky ||| s.rspFlags = s.sticky

/-- The transaction log: every entry is legal (R51, R54, R66, R67), and a command in flight will end with a legal read. -/
structure LogInv (s : State) : Prop where
  /-- every transaction since power-on reset is legal -/
  entriesLegal : ∀ x ∈ s.log, legalEntry s.cfg x = true
  /-- the final read of the command in flight starts at one of the two high-byte addresses (R54) -/
  flightAddr : ∀ c, s.inFlight = some c → c.addr = s.cfg.measBase ∨ c.addr = s.cfg.measBase + 2#8

/-! ## Clean runs -/

/-- "A claim about a program normally takes `STICKY[3:2] = 0` at the end as a premise" (R204): no word was illegal and no
operand was refused. -/
def State.programClean (s : State) : Prop := s.sticky.extractLsb' 2 2 = 0#2

/-- No bus transaction was refused and no handshake timed out (R200). -/
def State.busClean (s : State) : Prop := s.sticky.extractLsb' 0 2 = 0#2

end Sys2Proof.Machine
end

