-- ==== Sys2Proof/Certificates/Slice0/Obligations.lean ====
section
/-! DEFINITION. The statements for the provers, from the numbered rules of spec/. The configuration and every input are arbitrary in them; where a clause says what the model chose, its docstring names the log entry. -/

open Sys2Proof Sys2Proof.Machine

/-- A row of R84's table: a word that matches it decodes to its command, with `A = cmd_word[31:16]` and
`B = cmd_word[47:32]` (R82); a word with its opcode that does not match it decodes to nothing (R85). -/
def RowDecodes (mask mtch : CmdWord) (build : Half → Half → Instr) : Prop :=
  ∀ w : CmdWord,
    (w &&& mask = mtch → decode w = .ok (build (w.extractLsb' 16 16) (w.extractLsb' 32 16))) ∧
    (w &&& 0xFF#64 = mtch → w &&& mask ≠ mtch → ∃ e, decode w = .error e)

/-- MATCH and MASK of the 25 rows of spec/opcode_table.json. -/
def opcodeTable : List (CmdWord × CmdWord) :=
  [(0x01#64, 0xFFFFFFFFFFFFFFFF#64), (0x10#64, 0xFFFFFFFF0000FFFF#64), (0x11#64, 0xFFFFFFFF0000FFFF#64),
   (0x12#64, 0xFFFFFFFFFFFFFFFF#64), (0x13#64, 0xFFFFFFFFFFFFFFFF#64), (0x14#64, 0xFFFF00000000FFFF#64),
   (0x15#64, 0xFFFFFFFFFFFFFFFF#64), (0x16#64, 0xFFFF00000000FFFF#64), (0x17#64, 0xFFFFFFFFFFFFFFFF#64),
   (0x18#64, 0xFFFFFFFFFFFEFFFF#64), (0x19#64, 0xFFFFFFFF0000FFFF#64), (0x1A#64, 0xFFFFFFFF0000FFFF#64),
   (0x20#64, 0xFFFFFFFFFFFFFFFF#64), (0x21#64, 0xFFFFFFFFFFFFFFFF#64), (0x22#64, 0xFFFFFFFFFFFFFFFF#64),
   (0x23#64, 0xFFFFFFFFFFFFFFFF#64), (0x24#64, 0xFFFFFFFFFFFFFFFF#64), (0x28#64, 0xFFFFFFFFFFFFFFFF#64),
   (0x29#64, 0xFFFFFFFFFFFFFFFF#64), (0x30#64, 0xFFFFFFFFFFFFFFFF#64), (0x31#64, 0xFFFFFFFFFFFFFFFF#64),
   (0x32#64, 0xFFFFFFFFFFFFFFFF#64), (0x33#64, 0xFFFFFFFFFFFFFFFF#64), (0x34#64, 0xFFFFFFFFFFFFFFFF#64),
   (0x35#64, 0xFFFFFFFFFFFFFFFF#64)]

/-! ## Encoding -/

/-- R84, R89: decoding the word of a command gives that command back, with every operand at every value. -/
def Obligations.DecodeOfEncodeIsTheCommand : Prop :=
  ∀ i : Instr, decode (encode i) = .ok i

/-- R84, R89: a word that decodes is the word of the command it decodes to, so no two words mean one command. -/
def Obligations.EncodeOfDecodeIsTheWord : Prop :=
  ∀ (w : CmdWord) (i : Instr), decode w = .ok i → encode i = w

/-- R84: a word decodes to the command of a row if and only if `(w & MASK) = MATCH` for that row; no two rows match one
word. -/
def Obligations.DecodeSelectsByMaskAndMatch : Prop :=
  (∀ (w : CmdWord), ∀ r ∈ opcodeTable,
    (w &&& r.2 = r.1 ↔ ∃ i, decode w = .ok i ∧ (opcodeOf i).setWidth 64 = r.1)) ∧
  (∀ (w : CmdWord) (i : Instr), decode w = .ok i → ∃ r ∈ opcodeTable, w &&& r.2 = r.1) ∧
  (∀ (w : CmdWord), ∀ r ∈ opcodeTable, ∀ q ∈ opcodeTable, w &&& r.2 = r.1 → w &&& q.2 = q.1 → r = q)

/-- R81, R84, R89: a word of each family, written out from the spec's encoding, decodes to its command. -/
def Obligations.SampleWordsDecode : Prop :=
  decode 0x0000000000000001#64 = .ok .beginInit ∧
  decode 0x0000000000640010#64 = .ok (.setProxRate 100#16) ∧
  decode 0x0000001012340014#64 = .ok (.proxIntEn 0x1234#16 0x0010#16) ∧
  decode 0x0000000000010018#64 = .ok (.colorCompEn 1#1) ∧
  decode 0x0000000000000020#64 = .ok .update ∧
  decode 0x0000000000000029#64 = .ok .ondemandAls ∧
  decode 0x0000000000000035#64 = .ok .getStatus

/-! ## The execution cycle -/

/-- R87: when the host presents a word that decodes, and no power-on reset is right behind it, the block accepts it and
runs the command it stands for. (With a reset behind it: ResetMeetsTheCommandAtWork.) -/
def Obligations.StepRunsTheDecodedCommand : Prop :=
  ∀ (s : State) (w : CmdWord) (rest : List HostEvent) (i : Instr),
    Presents s w rest → decode w = .ok i → resetNext rest = false → step s = exec i (accepted s rest)

/-- R87, R89: the word of a command, placed where the next step takes it, is run by that very step, in any state with a
sound configuration and no power-on reset next. -/
def Obligations.PlacedWordRunsNext : Prop :=
  ∀ (s : State) (i : Instr), s.cfg.wellFormed = true → resetNext s.env.events = false →
    step (s.withFetchWord 64 (encode i).toNat) =
      exec i { s with cmdReady := false, rspValid := false, inFlight := none }

/-- R85: a word that matches no row is answered with ILLEGAL_CMD: `F = 0b0100`, `rsp_data = RESULT`, `STICKY[2] <- 1`, no
transaction and no other change, unless a power-on reset cuts it before it responds (R232); and the unassigned opcodes are
those the rule lists. -/
def Obligations.IllegalWordIsAnsweredOnly : Prop :=
  (∀ (s : State) (w : CmdWord) (rest : List HostEvent),
    Presents s w rest → (∀ r ∈ opcodeTable, w &&& r.2 ≠ r.1) → rest.head? ≠ some (.reset 0) →
      step s = .next (doneWith (accepted s rest) 0b0100#4)) ∧
  (∀ opc : Byte, (∀ r ∈ opcodeTable, r.1.toNat ≠ opc.toNat) ↔
    (opc.toNat = 0x00 ∨ (0x02 ≤ opc.toNat ∧ opc.toNat ≤ 0x0F) ∨ (0x1B ≤ opc.toNat ∧ opc.toNat ≤ 0x1F) ∨
      (0x25 ≤ opc.toNat ∧ opc.toNat ≤ 0x27) ∨ (0x2A ≤ opc.toNat ∧ opc.toNat ≤ 0x2F) ∨ 0x36 ≤ opc.toNat))

/-- R88: the three operand checks, and no other: a failed one raises INVALID_OPERAND and nothing else happens; every other
command and operand completes without it. -/
def Obligations.OperandChecksAreTheOnlyOnes : Prop :=
  (∀ s : State, ∀ i ∈ [Instr.setProxRate 0#16, Instr.setIntPersist 0#16, Instr.setAlsRate 0#16],
    exec i s = .next (doneWith s 0b1000#4)) ∧
  (∀ (s : State) (i : Instr), i ∉ [Instr.setProxRate 0#16, Instr.setIntPersist 0#16, Instr.setAlsRate 0#16] →
    ∃ t, exec i s = .next t ∧ (t.inFlight = none → t.rspFlags.getLsbD 3 = false))

/-- R5, R34: a block to which the host presents nothing, and in which no command runs, keeps its response and everything
else; one with a word before it that is not ready does not accept it. -/
def Obligations.NothingHappensWithoutAcceptance : Prop :=
  ∀ s : State, s.cfg.wellFormed = true → s.inFlight = none →
    (s.env.events = [] ∨ ∃ w rest, s.env.events = .command w :: rest ∧ s.cmdReady = false) → step s = .next s

/-- R35, R230, R232: a power-on reset, in an idle block, or in one with a command in flight where it arrives before the
command's next transaction, puts every piece of state to its reset value; it issues no transaction and gives no response.
That the configuration and the coming inputs stay, and at which point of a command in flight an event of the host's list
arrives, is the model's reading (log entry 6). (Later in a command: ResetMeetsTheCommandAtWork.) -/
def Obligations.PowerOnResetIdleOrBeforeTheNextTransaction : Prop :=
  ∀ (s : State) (rest : List HostEvent) (n : Nat), s.cfg.wellFormed = true → s.env.events = .reset n :: rest →
    s.inFlight = none ∨ n = 0 →
    ∃ t, step s = .next t ∧
      t.shProx = 0x00#8 ∧ t.shIred = 0x00#8 ∧ t.shAls = 0x00#8 ∧ t.shInt = 0x00#8 ∧
      t.cProx = 0x0000#16 ∧ t.cAls = 0x0000#16 ∧ t.cBlue1 = 0x0000#16 ∧ t.cBlue2 = 0x0000#16 ∧
      t.ccMode = false ∧ gainIndex t.gfSel = 0#2 ∧ hsIndex t.hsState = 0#2 ∧ t.t0 = 0x00000000#32 ∧
      t.sticky = 0b0000#4 ∧ t.result = 0x0000#16 ∧ t.cmdReady = true ∧
      t.rspValid = false ∧ t.rspFlags = 0b0000#4 ∧ t.rspData = 0x0000#16 ∧
      t.inFlight = none ∧ t.log = [] ∧ t.cfg = s.cfg ∧ t.env = { s.env with events := rest }

/-- The inputs after these transactions and clock samples have used up theirs (R58, R67). -/
def inputsAfter (e : Env) (new : List LogEntry) : Env :=
  ((e.dropAcks (new.filter LogEntry.isWrite).length).dropReplies (new.filter LogEntry.isRead).length).dropClocks
    (new.filterMap LogEntry.sample?).length

/-- R232: a power-on reset that arrives while a command runs, after its first `n` transactions and clock samples, "puts the
block in the reset state of rule R230 at once", and there is no response. Any command, any illegal word, any `n`. The rest
is the model's own: which inputs a cut command has used up, and that a reset which would arrive after the command's last
transaction finds it answered and waits (log entry 6); and that one which lies beyond a step that ends still polling stays,
that much nearer (log entry 6, and log entry 3 for where the step ends). -/
def Obligations.ResetMeetsTheCommandAtWork : Prop :=
  ∀ (s v u : State) (n : Nat) (rest : List HostEvent), Works s v u → v.env.events = .reset n :: rest →
    ∃ new : List LogEntry, u.log = v.log ++ new ∧
      (n ≤ new.length →
        step s = .next { State.powerOn s.cfg with env := { inputsAfter s.env (new.take n) with events := rest } }) ∧
      (new.length < n → u.inFlight = none → step s = .next u) ∧
      (new.length < n → u.inFlight ≠ none →
        step s = .next { u with env := { u.env with events := .reset (n - new.length) :: rest } })

/-- R243, R211, R5: the counter behind `ms_now` never runs back, through any step, a power-on reset among them; and the
clock samples of a command are that counter's values in order, each on 32 bits: `t_next ≥ t_prev`, "read modulo 2^32"
across a wrap. -/
def Obligations.ClockNeverRunsBack : Prop :=
  (∀ s t : State, step s = .next t → s.env.now ≤ t.env.now) ∧
  (∀ s v u : State, Works s v u → ∃ (new : List LogEntry) (counts : List Nat),
    u.log = v.log ++ new ∧ new.filterMap LogEntry.sample? = counts.map (BitVec.ofNat 32) ∧
    counts.Pairwise (· ≤ ·) ∧ ∀ n ∈ counts, s.env.now ≤ n ∧ n ≤ u.env.now)

/-- R7: a configuration that breaks one of the constraints is refused, and it is refused only then. -/
def Obligations.ConfigurationRefusedExactlyByConstraints : Prop :=
  ∀ s : State,
    (step s = .refused .illFormedConfig ↔
      ¬ ((∃ k < 7, s.cfg.pintMask.toNat = 3 * 2 ^ k) ∧ (∃ k < 7, s.cfg.aintMask.toNat = 3 * 2 ^ k) ∧
         s.cfg.pintMask.toNat < 32 ∧ s.cfg.aintMask.toNat < 32 ∧ s.cfg.pintMask &&& s.cfg.aintMask = 0x00#8 ∧
         [s.cfg.gainCode200, s.cfg.gainCode800, s.cfg.gainCode3200, s.cfg.gainCode25600].Nodup ∧
         s.cfg.gainCode200 = 0#2 ∧ s.cfg.measBase.toNat ≤ 0xF6))

/-! ## Initialisation -/

/-- R100: BEGIN zeroes three shadows and `GF_SEL` and issues exactly its five writes in order, whatever their
acknowledgements; everything else stays. -/
def Obligations.BeginZeroesAndIssuesFiveWrites : Prop :=
  RowDecodes 0xFFFFFFFFFFFFFFFF#64 0x01#64 (fun _ _ => .beginInit) ∧
  ∀ s : State,
    exec .beginInit s = .next (doneWith
      { s with
        shProx := 0x00#8, shIred := 0x00#8, shAls := 0x00#8, gfSel := .fa200
        log := s.log ++ [writeEntry s 0 s.cfg.aProxCfg 0x00#8, writeEntry s 1 s.cfg.aIredCfg 0x00#8,
          writeEntry s 2 s.cfg.aAlsCfg 0x00#8, writeEntry s 3 s.cfg.aAlsComp 0x00#8,
          writeEntry s 4 s.cfg.aCmd s.cfg.cmdPeriodic]
        env := s.env.dropAcks 5 }
      (nackFlag (s.env.ackAt 0 && s.env.ackAt 1 && s.env.ackAt 2 && s.env.ackAt 3 && s.env.ackAt 4)))

/-! ## Configuration -/

/-- R111, R112: SET_PROX_RATE writes `floor(log2(rate))` to bits 2:0; from 256 on it writes 0 there and sets bit 3; the
other bits stay, and nothing else changes but for the one write and the response. Rate 0 is refused. -/
def Obligations.SetProxRateWritesTheRateField : Prop :=
  RowDecodes 0xFFFFFFFF0000FFFF#64 0x10#64 (fun a _ => .setProxRate a) ∧
  (∀ s : State, exec (.setProxRate 0#16) s = .next (doneWith s 0b1000#4)) ∧
  ∀ (a : Half) (s : State), a ≠ 0#16 → ∃ v : Byte,
    exec (.setProxRate a) s = .next (doneWith
      { s with shProx := v, log := s.log ++ [writeEntry s 0 s.cfg.aProxCfg v], env := s.env.dropAcks 1 }
      (nackFlag (s.env.ackAt 0))) ∧
    v.extractLsb' 4 4 = s.shProx.extractLsb' 4 4 ∧
    (if a.toNat < 256 then
      v.getLsbD 3 = s.shProx.getLsbD 3 ∧
      2 ^ (v.extractLsb' 0 3).toNat ≤ a.toNat ∧ a.toNat < 2 ^ ((v.extractLsb' 0 3).toNat + 1)
     else v.getLsbD 3 = true ∧ v.extractLsb' 0 3 = 0#3)

/-- R113, R114: SET_INT_PERSIST writes the position of the highest set bit of `min(A, 128)` to bits 7:5 and keeps bits
4:0. Persistence 0 is refused. -/
def Obligations.SetIntPersistWritesThePersistenceField : Prop :=
  RowDecodes 0xFFFFFFFF0000FFFF#64 0x11#64 (fun a _ => .setIntPersist a) ∧
  (∀ s : State, exec (.setIntPersist 0#16) s = .next (doneWith s 0b1000#4)) ∧
  ∀ (a : Half) (s : State), a ≠ 0#16 → ∃ v : Byte,
    exec (.setIntPersist a) s = .next (doneWith
      { s with shInt := v, log := s.log ++ [writeEntry s 0 s.cfg.aIntCfg v], env := s.env.dropAcks 1 }
      (nackFlag (s.env.ackAt 0))) ∧
    v.extractLsb' 0 5 = s.shInt.extractLsb' 0 5 ∧
    (if a.toNat < 128 then
      2 ^ (v.extractLsb' 5 3).toNat ≤ a.toNat ∧ a.toNat < 2 ^ ((v.extractLsb' 5 3).toNat + 1)
     else v.extractLsb' 5 3 = 7#3)

/-- R115, R116: PROX_OFFSET_EN sets bit 3 of `SH.PROX` and PROX_OFFSET_DIS clears it; every other bit stays. -/
def Obligations.ProxOffsetSetsAndClearsBitThree : Prop :=
  RowDecodes 0xFFFFFFFFFFFFFFFF#64 0x12#64 (fun _ _ => .proxOffsetEn) ∧
  RowDecodes 0xFFFFFFFFFFFFFFFF#64 0x13#64 (fun _ _ => .proxOffsetDis) ∧
  ∀ (s : State), ∀ p ∈ [(Instr.proxOffsetEn, true), (Instr.proxOffsetDis, false)], ∃ v : Byte,
    exec p.1 s = .next (doneWith
      { s with shProx := v, log := s.log ++ [writeEntry s 0 s.cfg.aProxCfg v], env := s.env.dropAcks 1 }
      (nackFlag (s.env.ackAt 0))) ∧
    v.getLsbD 3 = p.2 ∧ ∀ k, k ≠ 3 → v.getLsbD k = s.shProx.getLsbD k

/-- R115, R116: a second enable changes no shadow; enable then disable gives `SH.PROX` back when bit 3 was 0 before, leaves
bit 3 clear in any case, and leaves the other three shadows. -/
def Obligations.ProxOffsetEnableIsIdempotentAndUndone : Prop :=
  ∀ s t u v : State, exec .proxOffsetEn s = .next t → exec .proxOffsetEn t = .next u → exec .proxOffsetDis u = .next v →
    (∀ x, u.shadow x = t.shadow x) ∧ v.shProx.getLsbD 3 = false ∧
      (s.shProx.getLsbD 3 = false → v.shProx = s.shProx) ∧ (∀ x, x ≠ .prox → v.shadow x = s.shadow x)

/-- R117, R118, R120: PROX_INT_EN and ALS_INT_EN set both enable bits of their pair, keep every other bit of `SH.INT`, and
issue exactly five writes in order; the high bytes are 0x00 under LEGACY and `v[15:8]` under FIXED. -/
def Obligations.InterruptEnablesWriteFiveBytes : Prop :=
  RowDecodes 0xFFFF00000000FFFF#64 0x14#64 (fun a b => .proxIntEn a b) ∧
  RowDecodes 0xFFFF00000000FFFF#64 0x16#64 (fun a b => .alsIntEn a b) ∧
  ∀ (a b : Half) (s : State),
    ∀ p ∈ [(Instr.proxIntEn a b, s.cfg.pintMask, [s.cfg.aPthTopH, s.cfg.aPthTopL, s.cfg.aPthBotH, s.cfg.aPthBotL]),
           (Instr.alsIntEn a b, s.cfg.aintMask, [s.cfg.aAthTopH, s.cfg.aAthTopL, s.cfg.aAthBotH, s.cfg.aAthBotL])],
    ∃ v ah al bh bl : Byte,
      exec p.1 s = .next (doneWith
        { s with
          shInt := v
          log := s.log ++ [writeEntry s 0 s.cfg.aIntCfg v, writeEntry s 1 (p.2.2.getD 0 0#8) ah,
            writeEntry s 2 (p.2.2.getD 1 0#8) al, writeEntry s 3 (p.2.2.getD 2 0#8) bh,
            writeEntry s 4 (p.2.2.getD 3 0#8) bl]
          env := s.env.dropAcks 5 }
        (nackFlag (s.env.ackAt 0 && s.env.ackAt 1 && s.env.ackAt 2 && s.env.ackAt 3 && s.env.ackAt 4))) ∧
      v &&& p.2.1 = p.2.1 ∧ v &&& ~~~p.2.1 = s.shInt &&& ~~~p.2.1 ∧
      al.toNat = a.toNat % 256 ∧ bl.toNat = b.toNat % 256 ∧
      (s.cfg.thHiPolicy = .legacy → ah = 0x00#8 ∧ bh = 0x00#8) ∧
      (s.cfg.thHiPolicy = .fixed → ah.toNat = a.toNat / 256 ∧ bh.toNat = b.toNat / 256)

/-- R119: PROX_INT_DIS clears both bits of its pair, keeps the others, and issues one write and no threshold. -/
def Obligations.ProxIntDisClearsItsPair : Prop :=
  RowDecodes 0xFFFFFFFFFFFFFFFF#64 0x15#64 (fun _ _ => .proxIntDis) ∧
  ∀ s : State, ∃ v : Byte,
    exec .proxIntDis s = .next (doneWith
      { s with shInt := v, log := s.log ++ [writeEntry s 0 s.cfg.aIntCfg v], env := s.env.dropAcks 1 }
      (nackFlag (s.env.ackAt 0))) ∧
    v &&& s.cfg.pintMask = 0x00#8 ∧ v &&& ~~~s.cfg.pintMask = s.shInt &&& ~~~s.cfg.pintMask

/-- R121: ALS_INT_DIS SETS both bits of its pair under LEGACY and clears them under FIXED; it keeps the others and issues
one write and no threshold under either. -/
def Obligations.AlsIntDisFollowsItsPolicy : Prop :=
  RowDecodes 0xFFFFFFFFFFFFFFFF#64 0x17#64 (fun _ _ => .alsIntDis) ∧
  ∀ s : State, ∃ v : Byte,
    exec .alsIntDis s = .next (doneWith
      { s with shInt := v, log := s.log ++ [writeEntry s 0 s.cfg.aIntCfg v], env := s.env.dropAcks 1 }
      (nackFlag (s.env.ackAt 0))) ∧
    (s.cfg.aintDisPolicy = .legacy → v &&& s.cfg.aintMask = s.cfg.aintMask) ∧
    (s.cfg.aintDisPolicy = .fixed → v &&& s.cfg.aintMask = 0x00#8) ∧
    v &&& ~~~s.cfg.aintMask = s.shInt &&& ~~~s.cfg.aintMask

/-- R122: COLOR_COMP_EN writes `1 + 2*P` to ALS-Compensation and sets `CC_MODE`, also when the write is not
acknowledged; no shadow changes. -/
def Obligations.ColorCompEnWritesAndSetsTheMode : Prop :=
  RowDecodes 0xFFFFFFFFFFFEFFFF#64 0x18#64 (fun a _ => .colorCompEn (a.extractLsb' 0 1)) ∧
  ∀ (p : BitVec 1) (s : State), ∃ v : Byte,
    exec (.colorCompEn p) s = .next (doneWith
      { s with ccMode := true, log := s.log ++ [writeEntry s 0 s.cfg.aAlsComp v], env := s.env.dropAcks 1 }
      (nackFlag (s.env.ackAt 0))) ∧
    v.toNat = 1 + 2 * p.toNat

/-- R123, R124: SET_ADC_GAIN selects the gain entry by exact match (entry 0 for any other value) and writes its code to
bits 4:3 in the same command; the other bits of `SH.ALS` stay. -/
def Obligations.SetAdcGainSelectsTheEntry : Prop :=
  RowDecodes 0xFFFFFFFF0000FFFF#64 0x19#64 (fun a _ => .setAdcGain a) ∧
  ∀ (a : Half) (s : State), ∃ (v : Byte) (g : GainEntry),
    exec (.setAdcGain a) s = .next (doneWith
      { s with
        gfSel := g, shAls := v, log := s.log ++ [writeEntry s 0 s.cfg.aAlsCfg v], env := s.env.dropAcks 1 }
      (nackFlag (s.env.ackAt 0))) ∧
    v.extractLsb' 0 3 = s.shAls.extractLsb' 0 3 ∧ v.extractLsb' 5 3 = s.shAls.extractLsb' 5 3 ∧
    (if a.toNat = 800 then gainIndex g = 1#2 ∧ v.extractLsb' 3 2 = s.cfg.gainCode800
     else if a.toNat = 3200 then gainIndex g = 2#2 ∧ v.extractLsb' 3 2 = s.cfg.gainCode3200
     else if a.toNat = 25600 then gainIndex g = 3#2 ∧ v.extractLsb' 3 2 = s.cfg.gainCode25600
     else gainIndex g = 0#2 ∧ v.extractLsb' 3 2 = s.cfg.gainCode200)

/-- R125, R126: SET_ALS_RATE writes `min(A, 8) - 1` to bits 2:0 of `SH.ALS` and keeps the others. Rate 0 is refused. -/
def Obligations.SetAlsRateWritesTheRateField : Prop :=
  RowDecodes 0xFFFFFFFF0000FFFF#64 0x1A#64 (fun a _ => .setAlsRate a) ∧
  (∀ s : State, exec (.setAlsRate 0#16) s = .next (doneWith s 0b1000#4)) ∧
  ∀ (a : Half) (s : State), a ≠ 0#16 → ∃ v : Byte,
    exec (.setAlsRate a) s = .next (doneWith
      { s with shAls := v, log := s.log ++ [writeEntry s 0 s.cfg.aAlsCfg v], env := s.env.dropAcks 1 }
      (nackFlag (s.env.ackAt 0))) ∧
    v.extractLsb' 3 5 = s.shAls.extractLsb' 3 5 ∧
    (if a.toNat < 8 then (v.extractLsb' 0 3).toNat + 1 = a.toNat else v.extractLsb' 0 3 = 7#3)

/-! ## Measurement update -/

/-- R150: the pair of two bytes is big-endian and unsigned. -/
def Obligations.PairIsBigEndian : Prop :=
  ∀ h l : Byte, (pair h l).toNat = h.toNat * 256 + l.toNat

/-- R151, R152: UPDATE issues one burst read of 4 bytes, or 10 with `CC_MODE = 1`; acknowledged, it decodes the pairs into
the cache; not acknowledged, the cache stays and BUS_ERR is raised. Nothing else changes. -/
def Obligations.UpdateDecodesOneBurst : Prop :=
  RowDecodes 0xFFFFFFFFFFFFFFFF#64 0x20#64 (fun _ _ => .update) ∧
  ∀ s : State,
    (s.env.replyAt 0 = .nack →
      exec .update s = .next (doneWith
        { s with
          log := s.log ++ [.read s.cfg.devAddr7 s.cfg.measBase (if s.ccMode then 10 else 4) false []]
          env := s.env.dropReplies 1 }
        0b0001#4)) ∧
    (∀ d : Vector Byte 10, s.env.replyAt 0 = .data d → ∃ p a b1 b2 : Half,
      exec .update s = .next (doneWith
        { s with
          cProx := p, cAls := a, cBlue1 := b1, cBlue2 := b2
          log := s.log ++ [.read s.cfg.devAddr7 s.cfg.measBase (if s.ccMode then 10 else 4) true
            (d.toList.take (if s.ccMode then 10 else 4))]
          env := s.env.dropReplies 1 }
        0b0000#4) ∧
      p.toNat = d[0].toNat * 256 + d[1].toNat ∧ a.toNat = d[2].toNat * 256 + d[3].toNat ∧
      (s.ccMode = true → b1.toNat = d[6].toNat * 256 + d[7].toNat ∧ b2.toNat = d[8].toNat * 256 + d[9].toNat) ∧
      (s.ccMode = false → b1 = s.cBlue1 ∧ b2 = s.cBlue2))

/-- R153 to R156: each raw getter answers its cache register, issues no transaction and writes no flag. -/
def Obligations.RawGettersAnswerTheCache : Prop :=
  RowDecodes 0xFFFFFFFFFFFFFFFF#64 0x21#64 (fun _ _ => .getProxRaw) ∧
  RowDecodes 0xFFFFFFFFFFFFFFFF#64 0x22#64 (fun _ _ => .getAlsRaw) ∧
  RowDecodes 0xFFFFFFFFFFFFFFFF#64 0x23#64 (fun _ _ => .getBlue1Raw) ∧
  RowDecodes 0xFFFFFFFFFFFFFFFF#64 0x24#64 (fun _ _ => .getBlue2Raw) ∧
  ∀ s : State,
    ∀ p ∈ [(Instr.getProxRaw, s.cProx), (Instr.getAlsRaw, s.cAls), (Instr.getBlue1Raw, s.cBlue1),
           (Instr.getBlue2Raw, s.cBlue2)],
      exec p.1 s = .next
        { s with
          result := p.2, rspData := p.2, rspFlags := 0b0000#4, rspValid := true, cmdReady := true, inFlight := none }

/-- A state has the cache of another (R29). -/
def sameCache (s t : State) : Prop :=
  t.cProx = s.cProx ∧ t.cAls = s.cAls ∧ t.cBlue1 = s.cBlue1 ∧ t.cBlue2 = s.cBlue2

/-- R29: "Only UPDATE writes them": no other command changes the cache; and no step does, a resumed on-demand command's among
them, unless it accepts an UPDATE or takes a power-on reset. -/
def Obligations.OnlyUpdateChangesTheCache : Prop :=
  (∀ (i : Instr) (s t : State), exec i s = .next t → i ≠ .update → sameCache s t) ∧
  (∀ s t : State, step s = .next t →
    (s.inFlight = none → ∀ w, s.env.events.head? = some (.command w) → decode w ≠ .ok .update) →
    ResetTaken s t ∨ sameCache s t)

/-- R157: after an acknowledged UPDATE, and any number of steps in which the host presents any words but UPDATE and no
power-on reset, each getter answers the value that UPDATE decoded. -/
def Obligations.GettersAnswerTheLastUpdate : Prop :=
  ∀ (s u t : State) (d : Vector Byte 10) (n : Nat), s.env.replyAt 0 = .data d → exec .update s = .next u →
    (∀ x ∈ s.env.events, ∃ w, x = .command w ∧ decode w ≠ .ok .update) →
    Host.Core.run Sys2Proof.core n u = .next t →
      (∃ x, exec .getProxRaw t = .next x ∧ x.rspData.toNat = d[0].toNat * 256 + d[1].toNat) ∧
      (∃ x, exec .getAlsRaw t = .next x ∧ x.rspData.toNat = d[2].toNat * 256 + d[3].toNat) ∧
      (s.ccMode = true →
        (∃ x, exec .getBlue1Raw t = .next x ∧ x.rspData.toNat = d[6].toNat * 256 + d[7].toNat) ∧
        (∃ x, exec .getBlue2Raw t = .next x ∧ x.rspData.toNat = d[8].toNat * 256 + d[9].toNat))

/-! ## The on-demand handshake -/

/-- The two on-demand commands with the high-byte addresses of R172 and R173. -/
def onDemandCommands (c : Cfg) : List (Instr × Byte) :=
  [(.ondemandProx, c.measBase), (.ondemandAls, c.measBase + 2#8)]

/-- Poll `j` of the command does not end the loop of R171: the done flag is not seen, and the clock sample after it is not
more than 1000 ms past the sample `T0` at the trigger. -/
def pollGoesOn (s : State) (j : Nat) : Prop :=
  pollDone (s.env.replyAt j) = false ∧ ¬ (1000 < (s.env.clockAt (j + 1) - s.env.clockAt 0).toNat)

/-- What the trigger and `k` polls without the flag put in the log (R171). -/
def handshakeLog (s : State) (k : Nat) : List LogEntry :=
  [writeEntry s 0 s.cfg.aCmd s.cfg.cmdOndemand, .clock (s.env.clockAt 0)] ++
  (List.range k).flatMap
    (fun j => [readEntry s s.cfg.aCmd 1 (s.env.replyAt j), .clock (s.env.clockAt (j + 1))])

/-- The trigger and the first `k` polls were all acknowledged. -/
def handshakeAcked (s : State) (k : Nat) : Bool :=
  s.env.ackAt 0 && (List.range k).all (fun j => replyAcked (s.env.replyAt j))

/-- `RESULT` after the final read (R171): "RESULT unchanged" without an acknowledgement. -/
def finalResult (s : State) (r : ReadReply) : Half :=
  match r with
  | .nack => s.result
  | .data d => BitVec.ofNat 16 (d[0].toNat * 256 + d[1].toNat)

/-- R171, R172, R173: if `k` polls do not end the loop and the next one sees bit 6 of the poll byte, the command makes that
poll and the 2-byte read at the measurement's high-byte address, and ends READY: `RESULT` takes the pair, the cache stays,
and BUS_ERR tells whether any transaction was not acknowledged. Bit 6 alone is examined. -/
def Obligations.OnDemandEndsReady : Prop :=
  RowDecodes 0xFFFFFFFFFFFFFFFF#64 0x28#64 (fun _ _ => .ondemandProx) ∧
  RowDecodes 0xFFFFFFFFFFFFFFFF#64 0x29#64 (fun _ _ => .ondemandAls) ∧
  ∀ (s : State), ∀ p ∈ onDemandCommands s.cfg, ∀ (k : Nat) (d : Vector Byte 10),
    k < max 1 s.env.replies.length → (∀ j < k, pollGoesOn s j) →
    s.env.replyAt k = .data d → d[0].getLsbD 6 = true →
    exec p.1 s = .next (doneWith
      { s with
        hsState := .ready, t0 := s.env.clockAt 0, result := finalResult s (s.env.replyAt (k + 1))
        log := s.log ++ handshakeLog s k ++
          [readEntry s s.cfg.aCmd 1 (s.env.replyAt k), readEntry s p.2 2 (s.env.replyAt (k + 1))]
        env := ((s.env.dropAcks 1).dropReplies (k + 2)).dropClocks (k + 1) }
      (nackFlag (handshakeAcked s k && replyAcked (s.env.replyAt (k + 1)))))

/-- R171, R172, R173, R203: if the `k`-th poll without the flag is followed by the first clock sample of more than 1000 ms
past `T0`, the command ends TIMED_OUT; it still makes the 2-byte read and decodes it, and raises TIMEOUT. -/
def Obligations.OnDemandTimesOut : Prop :=
  ∀ (s : State), ∀ p ∈ onDemandCommands s.cfg, ∀ k : Nat,
    k < max 1 s.env.replies.length → (∀ j < k, pollGoesOn s j) →
    pollDone (s.env.replyAt k) = false → 1000 < (s.env.clockAt (k + 1) - s.env.clockAt 0).toNat →
    exec p.1 s = .next (doneWith
      { s with
        hsState := .timedOut, t0 := s.env.clockAt 0, result := finalResult s (s.env.replyAt (k + 1))
        log := s.log ++ handshakeLog s (k + 1) ++ [readEntry s p.2 2 (s.env.replyAt (k + 1))]
        env := ((s.env.dropAcks 1).dropReplies (k + 2)).dropClocks (k + 2) }
      (0b0010#4 ||| nackFlag (handshakeAcked s (k + 1) && replyAcked (s.env.replyAt (k + 1)))))

/-- R171, R175, and the model's choice of how much one step runs (log entry 3): if no poll whose reply is fixed, or the one
free poll, ends the loop, the command holds the block: `cmd_ready = 0`, no response, HS_STATE TRIGGERED. -/
def Obligations.OnDemandHoldsTheBlock : Prop :=
  ∀ (s : State), ∀ p ∈ onDemandCommands s.cfg, ∀ k : Nat,
    k = max 1 s.env.replies.length → (∀ j < k, pollGoesOn s j) →
    exec p.1 s = .next
      { s with
        hsState := .triggered, t0 := s.env.clockAt 0, cmdReady := false, rspValid := false
        inFlight := some ⟨p.2, nackFlag (handshakeAcked s k)⟩
        log := s.log ++ handshakeLog s k
        env := ((s.env.dropAcks 1).dropReplies k).dropClocks (k + 1) }

/-- Poll `j` of a resumed command does not end the loop of R171: `T0` is the sample the state holds. -/
def resumedPollGoesOn (s : State) (j : Nat) : Prop :=
  pollDone (s.env.replyAt j) = false ∧ ¬ (1000 < (s.env.clockAt j - s.t0).toNat)

/-- What `k` polls of a resumed command without the flag put in the log (R171). -/
def resumedLog (s : State) (k : Nat) : List LogEntry :=
  (List.range k).flatMap (fun j => [readEntry s s.cfg.aCmd 1 (s.env.replyAt j), .clock (s.env.clockAt j)])

/-- The first `k` polls of a resumed command were all acknowledged. -/
def resumedAcked (s : State) (k : Nat) : Bool := (List.range k).all (fun j => replyAcked (s.env.replyAt j))

/-- R171, R172, R173: as OnDemandEndsReady, for a step that goes on with a command in flight, from `T0 = s.t0` and the flags
the command had: whichever of its polls sees bit 6, it makes the final read at its own address and ends READY. (How many
polls a step makes is the model's choice: log entry 3.) -/
def Obligations.ResumedCommandEndsReady : Prop :=
  ∀ (s : State) (c : InFlight) (k : Nat) (d : Vector Byte 10),
    s.cfg.wellFormed = true → s.inFlight = some c → resetNext s.env.events = false →
    k < max 1 s.env.replies.length → (∀ j < k, resumedPollGoesOn s j) →
    s.env.replyAt k = .data d → d[0].getLsbD 6 = true →
    step s = .next (doneWith
      { s with
        hsState := .ready, result := finalResult s (s.env.replyAt (k + 1))
        log := s.log ++ resumedLog s k ++
          [readEntry s s.cfg.aCmd 1 (s.env.replyAt k), readEntry s c.addr 2 (s.env.replyAt (k + 1))]
        env := (s.env.dropReplies (k + 2)).dropClocks k }
      (c.flags ||| nackFlag (resumedAcked s k && replyAcked (s.env.replyAt (k + 1)))))

/-- R171, R172, R173, R203: as OnDemandTimesOut, for a step that goes on with a command in flight, from `T0 = s.t0` and the
flags the command had. (How many polls a step makes is the model's choice: log entry 3.) -/
def Obligations.ResumedCommandTimesOut : Prop :=
  ∀ (s : State) (c : InFlight) (k : Nat),
    s.cfg.wellFormed = true → s.inFlight = some c → resetNext s.env.events = false →
    k < max 1 s.env.replies.length → (∀ j < k, resumedPollGoesOn s j) →
    pollDone (s.env.replyAt k) = false → 1000 < (s.env.clockAt k - s.t0).toNat →
    step s = .next (doneWith
      { s with
        hsState := .timedOut, result := finalResult s (s.env.replyAt (k + 1))
        log := s.log ++ resumedLog s (k + 1) ++ [readEntry s c.addr 2 (s.env.replyAt (k + 1))]
        env := (s.env.dropReplies (k + 2)).dropClocks (k + 1) }
      (c.flags ||| (0b0010#4 ||| nackFlag (resumedAcked s (k + 1) && replyAcked (s.env.replyAt (k + 1))))))

/-- R171, R175, and the model's choice of how much one step runs (log entry 3): as OnDemandHoldsTheBlock, for a step that
goes on with a command in flight: it stays in flight, with the same final address, and nothing else changes but for the log
and the inputs. -/
def Obligations.ResumedCommandHoldsTheBlock : Prop :=
  ∀ (s : State) (c : InFlight) (k : Nat),
    s.cfg.wellFormed = true → s.inFlight = some c → resetNext s.env.events = false →
    k = max 1 s.env.replies.length → (∀ j < k, resumedPollGoesOn s j) →
    step s = .next
      { s with
        cmdReady := false, rspValid := false, inFlight := some ⟨c.addr, c.flags ||| nackFlag (resumedAcked s k)⟩
        log := s.log ++ resumedLog s k
        env := (s.env.dropReplies k).dropClocks k }

/-- R175: "The loop ends only on a poll that sees bit 6, or on a clock sample more than 1000 past `T0`": a step of a command
in flight completes it exactly if one of the polls it makes does so; else it stays in flight, with the same final address,
and no word is accepted. (How many polls one step makes is the model's choice: log entry 3.) -/
def Obligations.PollingEndsOnlyByFlagOrDeadline : Prop :=
  ∀ (s : State) (c : InFlight), s.cfg.wellFormed = true → s.inFlight = some c → resetNext s.env.events = false →
    ∃ t, step s = .next t ∧ t.env.events = s.env.events ∧ t.t0 = s.t0 ∧
      (t.inFlight = none ↔ ∃ j < max 1 s.env.replies.length,
        pollDone (s.env.replyAt j) = true ∨ 1000 < (s.env.clockAt j - s.t0).toNat) ∧
      (t.inFlight = none → t.cmdReady = true ∧ t.rspValid = true ∧
        (t.hsState = .ready ∨ (t.hsState = .timedOut ∧ t.rspFlags.getLsbD 1 = true))) ∧
      (t.inFlight ≠ none → t.cmdReady = false ∧ t.rspValid = false ∧ t.hsState = s.hsState ∧
        t.sticky = s.sticky ∧ t.result = s.result ∧ t.inFlight.map InFlight.addr = some c.addr)

/-- R175, R239: once the clock passes `T0 + 1000` at the sample number `n` from here, a command in flight has completed,
unless a power-on reset is next; words that wait do not matter. That it does so within `n + 1` steps rests on the model's
own granularity (log entry 3), and that it does so at all on a bus that always answers (log entry 9). -/
def Obligations.PollingEndsOnceTheClockPasses : Prop :=
  ∀ (n : Nat) (s : State), s.cfg.wellFormed = true → s.inFlight ≠ none → resetNext s.env.events = false →
    1000 < (s.env.clockAt n - s.t0).toNat →
    ∃ m ≤ n + 1, ∃ t : State, Host.Core.run Sys2Proof.core m s = .next t ∧ t.inFlight = none ∧ t.rspValid = true

/-! ## Accessors -/

/-- R190, R27: GET_GAIN_FACTOR answers 8179, 2217, 602 or 75 for `GF_SEL` 0, 1, 2 or 3, and nothing else changes. -/
def Obligations.GetGainFactorAnswersTheTable : Prop :=
  RowDecodes 0xFFFFFFFFFFFFFFFF#64 0x30#64 (fun _ _ => .getGainFactor) ∧
  ∀ s : State, ∃ v : Half,
    exec .getGainFactor s = .next
      { s with result := v, rspData := v, rspFlags := 0b0000#4, rspValid := true, cmdReady := true, inFlight := none } ∧
    [8179, 2217, 602, 75][(gainIndex s.gfSel).toNat]? = some v.toNat

/-- R191 to R194: each READ_SH command answers its shadow, zero-extended, issues no transaction and writes no flag. -/
def Obligations.ReadShadowsAnswerTheShadows : Prop :=
  RowDecodes 0xFFFFFFFFFFFFFFFF#64 0x31#64 (fun _ _ => .readShProx) ∧
  RowDecodes 0xFFFFFFFFFFFFFFFF#64 0x32#64 (fun _ _ => .readShIred) ∧
  RowDecodes 0xFFFFFFFFFFFFFFFF#64 0x33#64 (fun _ _ => .readShAls) ∧
  RowDecodes 0xFFFFFFFFFFFFFFFF#64 0x34#64 (fun _ _ => .readShInt) ∧
  ∀ s : State,
    ∀ p ∈ [(Instr.readShProx, s.shProx), (Instr.readShIred, s.shIred), (Instr.readShAls, s.shAls),
           (Instr.readShInt, s.shInt)], ∃ v : Half, v.toNat = p.2.toNat ∧
      exec p.1 s = .next
        { s with
          result := v, rspData := v, rspFlags := 0b0000#4, rspValid := true, cmdReady := true, inFlight := none }

/-- R195, R33: GET_STATUS answers the view of R33, field by field, with `STICKY` as it stood before. -/
def Obligations.GetStatusAnswersTheView : Prop :=
  RowDecodes 0xFFFFFFFFFFFFFFFF#64 0x35#64 (fun _ _ => .getStatus) ∧
  ∀ s : State, ∃ v : Half,
    exec .getStatus s = .next
      { s with result := v, rspData := v, rspFlags := 0b0000#4, rspValid := true, cmdReady := true, inFlight := none } ∧
    v.extractLsb' 0 4 = s.sticky ∧ v.getLsbD 4 = s.ccMode ∧ v.extractLsb' 5 2 = gainIndex s.gfSel ∧
    v.extractLsb' 7 2 = hsIndex s.hsState ∧ v.extractLsb' 9 7 = 0#7

/-! ## The shared operations -/

/-- R110: the field write clears the mask, ORs the code without masking it, keeps every other register, and issues the one
write of the new shadow; a write that is not acknowledged raises BUS_ERR and leaves the new value. -/
def Obligations.FieldWriteClearsAndOrs : Prop :=
  ∀ (r : Run) (x : Shadow) (addr mask code : Byte), ∃ v : Byte,
    (∀ k < 8, v.getLsbD k = ((r.state.shadow x).getLsbD k && !mask.getLsbD k || code.getLsbD k)) ∧
    (r.fieldWrite x addr mask code).state.shadow x = v ∧
    (∀ y, y ≠ x → (r.fieldWrite x addr mask code).state.shadow y = r.state.shadow y) ∧
    (r.fieldWrite x addr mask code).state.log = r.state.log ++ [writeEntry r.state 0 addr v] ∧
    (r.fieldWrite x addr mask code).flags = r.flags ||| nackFlag (r.state.env.ackAt 0)

/-- R117: the low threshold byte is `v[7:0]`; the high one is `trunc_8(v & 0xFF00)`, which is 0x00, under LEGACY and
`v[15:8]` under FIXED. -/
def Obligations.ThresholdBytesSplit : Prop :=
  ∀ v : Half, (thLo v).toNat = v.toNat % 256 ∧ thHi .legacy v = (v &&& 0xFF00#16).setWidth 8 ∧
    thHi .legacy v = 0x00#8 ∧ (thHi .fixed v).toNat * 256 + (thLo v).toNat = v.toNat

/-! ## Whole-machine rules -/

/-- R207, R210: every command, in every state, answers a next state; it is complete unless it is an on-demand command that
is still polling. That it completes rests on the model's bus, which always answers at once (log entry 9); that it has a
meaning in a state with another command in flight, which no run reaches, is the model's too (log entry 12). -/
def Obligations.EveryCommandGoesOn : Prop :=
  ∀ (i : Instr) (s : State), ∃ t, exec i s = .next t ∧
    (i ≠ .ondemandProx → i ≠ .ondemandAls → t.inFlight = none ∧ t.cmdReady = true ∧ t.rspValid = true)

/-- R38's column "Written by", with R32 for `RESULT`: a command that is not listed as a writer of a piece of state leaves it
as it was (for `STICKY`, which every command writes: StickyAccumulatesAndIsNeverCleared); and a resumed on-demand command
leaves all but `HS_STATE`, `RESULT`, `STICKY` and the port. -/
def Obligations.StateChangesOnlyByItsWriters : Prop :=
  (∀ (i : Instr) (s t : State), exec i s = .next t →
    (opcodeOf i ∉ [0x01#8, 0x10#8, 0x12#8, 0x13#8] → t.shProx = s.shProx) ∧
    (opcodeOf i ∉ [0x01#8] → t.shIred = s.shIred) ∧
    (opcodeOf i ∉ [0x01#8, 0x19#8, 0x1A#8] → t.shAls = s.shAls) ∧
    (opcodeOf i ∉ [0x11#8, 0x14#8, 0x15#8, 0x16#8, 0x17#8] → t.shInt = s.shInt) ∧
    (opcodeOf i ∉ [0x01#8, 0x19#8] → t.gfSel = s.gfSel) ∧
    (opcodeOf i ∉ [0x18#8] → t.ccMode = s.ccMode) ∧
    (opcodeOf i ∉ [0x20#8] → sameCache s t) ∧
    (opcodeOf i ∉ [0x28#8, 0x29#8] → t.hsState = s.hsState ∧ t.t0 = s.t0) ∧
    (opcodeOf i ∉ [0x21#8, 0x22#8, 0x23#8, 0x24#8, 0x28#8, 0x29#8, 0x30#8, 0x31#8, 0x32#8, 0x33#8, 0x34#8, 0x35#8] →
      t.result = s.result) ∧
    t.cfg = s.cfg) ∧
  (∀ s t : State, s.inFlight ≠ none → step s = .next t → ResetTaken s t ∨
    ((∀ x, t.shadow x = s.shadow x) ∧ t.gfSel = s.gfSel ∧ t.ccMode = s.ccMode ∧ sameCache s t ∧ t.t0 = s.t0 ∧
      t.cfg = s.cfg))

/-- R28: `CC_MODE`, once set, stays set through every step but a power-on reset; and only COLOR_COMP_EN sets it. -/
def Obligations.ColourCompensationIsPermanent : Prop :=
  (∀ s t : State, step s = .next t → s.ccMode = true → ResetTaken s t ∨ t.ccMode = true) ∧
  (∀ (i : Instr) (s t : State), exec i s = .next t → s.ccMode = false → t.ccMode = true → ∃ p, i = .colorCompEn p)

/-- R31, R201, R205: a completed command ORs its response flags into `STICKY`, one that still polls leaves it; and no step
but a power-on reset clears a bit of it. -/
def Obligations.StickyAccumulatesAndIsNeverCleared : Prop :=
  (∀ (i : Instr) (s t : State), exec i s = .next t →
    (t.inFlight = none → t.sticky = s.sticky ||| t.rspFlags) ∧ (t.inFlight ≠ none → t.sticky = s.sticky)) ∧
  (∀ s t : State, step s = .next t → ResetTaken s t ∨ t.sticky &&& s.sticky = s.sticky)

/-- R200, R206: what a completed command answers: only an on-demand command raises TIMEOUT, only a command that issues a
transaction raises BUS_ERR, and no other combination of flags occurs. -/
def Obligations.ResponseFlagsByCommand : Prop :=
  ∀ (i : Instr) (s t : State), exec i s = .next t → t.inFlight = none →
    t.rspFlags ∈ [0b0000#4, 0b0001#4, 0b0010#4, 0b0011#4, 0b1000#4] ∧
    (t.rspFlags.getLsbD 1 = true → i = .ondemandProx ∨ i = .ondemandAls) ∧
    (t.rspFlags.getLsbD 0 = true → t.log ≠ s.log)

/-- R58, R60, R67: a command only appends to the log, and takes its acknowledgements, replies and clock samples from the
inputs in order: as many as it appends entries of each kind; the events stay, and no input is changed. -/
def Obligations.CommandsAppendAndDraw : Prop :=
  ∀ (i : Instr) (s t : State), exec i s = .next t →
    ∃ (new : List LogEntry) (a r c : Nat), t.log = s.log ++ new ∧
      t.env = ((s.env.dropAcks a).dropReplies r).dropClocks c ∧
      a = (new.filter LogEntry.isWrite).length ∧ a + r + c = new.length ∧
      c = (new.filter (fun x => match x with | .clock _ => true | _ => false)).length

/-- R26: whenever a command changes a shadow, the same command writes the new value to its device register. -/
def Obligations.ShadowsAreWrittenThrough : Prop :=
  ∀ (i : Instr) (s t : State), exec i s = .next t →
    ∀ p ∈ [(Shadow.prox, s.cfg.aProxCfg), (Shadow.ired, s.cfg.aIredCfg), (Shadow.als, s.cfg.aAlsCfg),
           (Shadow.int, s.cfg.aIntCfg)],
      t.shadow p.1 ≠ s.shadow p.1 →
        ∃ (new : List LogEntry) (ack : Bool), t.log = s.log ++ new ∧
          LogEntry.write s.cfg.devAddr7 p.2 (t.shadow p.1) ack ∈ new

/-- R127: no configuration command, and not BEGIN, reads a device register: every transaction of it is a write. -/
def Obligations.ConfigurationNeverReadsBack : Prop :=
  ∀ (i : Instr) (s t : State), (opcodeOf i).toNat < 0x20 → exec i s = .next t →
    ∃ new : List LogEntry, t.log = s.log ++ new ∧ ∀ x ∈ new, x.isWrite = true

/-- A state without what reports an acknowledgement: the BUS_ERR bits (bit 0; R200), the acks of the writes in the log, and
the acknowledgements to come. The other three flags stay in. -/
def withoutAcks (s : State) : State :=
  { s with
    sticky := s.sticky &&& 0b1110#4, rspFlags := s.rspFlags &&& 0b1110#4
    inFlight := s.inFlight.map (fun c => { c with flags := c.flags &&& 0b1110#4 })
    log := s.log.map (fun x => match x with
      | .write dev a v _ => .write dev a v true
      | .read dev a n ack d => .read dev a n ack d
      | .clock t => .clock t)
    env := { s.env with acks := [], acksDrawn := 0 } }

/-- R201, R202: "no command's data path depends on whether a write was acknowledged": with other acknowledgements a command
issues the same transactions and leaves the same state, TIMEOUT and INVALID_OPERAND among it, but for the BUS_ERR bits and
the log's acks that report them. -/
def Obligations.DataPathIgnoresWriteAcks : Prop :=
  ∀ (i : Instr) (s t t' : State) (acks : List Bool) (n : Nat),
    exec i s = .next t → exec i { s with env := { s.env with acks := acks, acksDrawn := n } } = .next t' →
    withoutAcks t' = withoutAcks t

/-- R237: under `AINT_DIS_POLICY = LEGACY`, once both ALS enable bits are set in `SH.INT`, no step but a power-on reset
clears one of them: neither ALS_INT_DIS nor BEGIN nor any other command. -/
def Obligations.LegacyAlsInterruptStaysEnabled : Prop :=
  ∀ s t : State, s.cfg.aintDisPolicy = .legacy → s.shInt &&& s.cfg.aintMask = s.cfg.aintMask → step s = .next t →
    ResetTaken s t ∨ t.shInt &&& t.cfg.aintMask = t.cfg.aintMask

/-- R175: "A model must admit that infinite execution": for every `n` there are a ready state and inputs with which an
on-demand command makes `n + 1` polls and still holds the block. -/
def Obligations.PollingMayGoOnWithoutEnd : Prop :=
  ∀ n : Nat, ∀ i ∈ [Instr.ondemandProx, Instr.ondemandAls], ∃ s t : State,
    s.cfg.wellFormed = true ∧ s.cmdReady = true ∧ s.inFlight = none ∧ exec i s = .next t ∧
      t.inFlight ≠ none ∧ t.cmdReady = false ∧ t.env.repliesDrawn = s.env.repliesDrawn + (n + 1)

/-! ## Invariants -/

/-- R22 to R25, R27: every step keeps the shadow invariant. -/
def Obligations.StepKeepsShadowInvariant : Prop :=
  ∀ s t : State, ShadowInv s → step s = .next t → ShadowInv t

/-- R30, R31, R32, R34, R206: every step keeps the invariant of the host port, the handshake state and the flags. -/
def Obligations.StepKeepsPortInvariant : Prop :=
  ∀ s t : State, PortInv s → step s = .next t → PortInv t

/-- R5, R51, R53, R54, R66: every step keeps the log legal: each transaction is addressed to `DEV_ADDR7`, each write goes to
a register of R51, and each read is one of R54, with the bytes its acknowledgement gives it. -/
def Obligations.StepKeepsLogInvariant : Prop :=
  ∀ s t : State, LogInv s → step s = .next t → LogInv t

/-- R152: every step keeps the blue channels at 0 while colour compensation is off. -/
def Obligations.StepKeepsCacheInvariant : Prop :=
  ∀ s t : State, CacheInv s → step s = .next t → CacheInv t

/-- R35: the state after power-on reset has all four invariants, for every configuration that meets R7; so has the state
`State.reset`, whose configuration (the REF column of R6) is the model's choice (log entry 1). -/
def Obligations.PowerOnStateHasTheInvariants : Prop :=
  (∀ c : Cfg, c.wellFormed = true →
    ShadowInv (State.powerOn c) ∧ PortInv (State.powerOn c) ∧ LogInv (State.powerOn c) ∧ CacheInv (State.powerOn c)) ∧
  ShadowInv State.reset ∧ PortInv State.reset ∧ LogInv State.reset ∧ CacheInv State.reset
end

