-- ==== Sys2Proof/Laws/Decode.lean ====
section
/-! SUPPORT. The fields of an assembled command word, and a word assembled from its fields (spec/30_encoding.md R81, R89). -/

namespace Sys2Proof

section Fields

variable (o : Byte) (a b : Half)

@[simp] theorem opcOf_assembleWord : opcOf (assembleWord o a b) = o := by
  unfold opcOf assembleWord
  ext i hi
  simp
  grind

@[simp] theorem rsv0Of_assembleWord : rsv0Of (assembleWord o a b) = 0#8 := by
  unfold rsv0Of assembleWord
  ext i hi
  simp
  grind

@[simp] theorem operandA_assembleWord : operandA (assembleWord o a b) = a := by
  unfold operandA assembleWord
  ext i hi
  simp
  grind

@[simp] theorem operandB_assembleWord : operandB (assembleWord o a b) = b := by
  unfold operandB assembleWord
  ext i hi
  simp
  grind

@[simp] theorem rsv1Of_assembleWord : rsv1Of (assembleWord o a b) = 0#16 := by
  unfold rsv1Of assembleWord
  ext i hi
  simp
  grind

end Fields

/-- A word whose reserved fields are 0 is the word assembled from its opcode and operands: no bit is left over. -/
theorem assembleWord_of_fields (w : CmdWord) (h0 : rsv0Of w = 0#8) (h1 : rsv1Of w = 0#16) :
    assembleWord (opcOf w) (operandA w) (operandB w) = w := by
  have r0 : ∀ k, k < 8 → w.getLsbD (8 + k) = false := by
    intro k hk
    have := congrArg (fun v => v.getLsbD k) h0
    simpa [rsv0Of, hk] using this
  have r1 : ∀ k, k < 16 → w.getLsbD (48 + k) = false := by
    intro k hk
    have := congrArg (fun v => v.getLsbD k) h1
    simpa [rsv1Of, hk] using this
  unfold assembleWord opcOf operandA operandB
  ext i hi
  have a0 := r0 (i - 8)
  have a1 := r1 (i - 48)
  simp
  grind

/-- Two words are equal if and only if their five fields are. -/
theorem word_eq_iff_fields (w v : CmdWord) :
    w = v ↔ opcOf w = opcOf v ∧ rsv0Of w = rsv0Of v ∧ operandA w = operandA v ∧ operandB w = operandB v ∧
      rsv1Of w = rsv1Of v := by
  constructor
  · rintro rfl
    simp
  · rintro ⟨h0, h1, h2, h3, h4⟩
    ext i hi
    have e0 := congrArg (fun x => x.getLsbD i) h0
    have e1 := congrArg (fun x => x.getLsbD (i - 8)) h1
    have e2 := congrArg (fun x => x.getLsbD (i - 16)) h2
    have e3 := congrArg (fun x => x.getLsbD (i - 32)) h3
    have e4 := congrArg (fun x => x.getLsbD (i - 48)) h4
    simp [opcOf, rsv0Of, operandA, operandB, rsv1Of] at e0 e1 e2 e3 e4
    grind

section FieldsOfAnd

variable (w v : CmdWord)

@[simp] theorem opcOf_and : opcOf (w &&& v) = opcOf w &&& opcOf v := by
  simp [opcOf, BitVec.extractLsb'_and]

@[simp] theorem rsv0Of_and : rsv0Of (w &&& v) = rsv0Of w &&& rsv0Of v := by
  simp [rsv0Of, BitVec.extractLsb'_and]

@[simp] theorem operandA_and : operandA (w &&& v) = operandA w &&& operandA v := by
  simp [operandA, BitVec.extractLsb'_and]

@[simp] theorem operandB_and : operandB (w &&& v) = operandB w &&& operandB v := by
  simp [operandB, BitVec.extractLsb'_and]

@[simp] theorem rsv1Of_and : rsv1Of (w &&& v) = rsv1Of w &&& rsv1Of v := by
  simp [rsv1Of, BitVec.extractLsb'_and]

end FieldsOfAnd

theorem opcode_word_eq_assembleWord (o : Byte) : o.setWidth 64 = assembleWord o 0#16 0#16 := by
  simp [assembleWord]

@[simp] theorem opcOf_opcode_word (o : Byte) : opcOf (o.setWidth 64) = o := by
  rw [opcode_word_eq_assembleWord]
  simp

/-- The mask 0xFFFE keeps exactly the bits 15:1 of an operand. -/
theorem getElem_and_fffe (x : Half) (i : Nat) (hi : i < 16) : (x &&& 65534#16)[i] = (x[i] && decide (1 ≤ i)) := by
  have bits : ∀ i < 16, (65534#16).getLsbD i = decide (1 ≤ i) := by decide
  rw [BitVec.getElem_and, ← BitVec.getLsbD_eq_getElem, ← BitVec.getLsbD_eq_getElem, bits i hi]

/-- What the mask of COLOR_COMP_EN asks of the field `A`: bits 15:1 are 0. -/
theorem and_fffe_eq_zero_iff (x : Half) : x &&& 65534#16 = 0#16 ↔ x.extractLsb' 1 15 = 0#15 := by
  constructor
  · intro h
    ext i hi
    have e := congrArg (fun v => v[1 + i]'(by omega)) h
    simp only [getElem_and_fffe] at e
    simpa [Nat.add_comm, BitVec.getLsbD_eq_getElem, show i + 1 < 16 by omega] using e
  · intro h
    ext i hi
    rw [getElem_and_fffe]
    rcases i with _ | i
    · simp
    · have e := congrArg (fun v => v[i]'(by omega)) h
      simp at e
      simpa [Nat.add_comm, BitVec.getLsbD_eq_getElem, hi] using e

theorem and_ones_byte (x : Byte) : x &&& 255#8 = x := BitVec.and_allOnes

theorem and_ones_half (x : Half) : x &&& 65535#16 = x := BitVec.and_allOnes

/-- R84's test of a word against a row's MASK and MATCH, said in the fields of R81. -/
theorem and_maskOf_eq_iff_fields (w : CmdWord) (u : OperandUse) (o : Byte) :
    w &&& maskOf u = o.setWidth 64 ↔
      opcOf w = o ∧ rsv0Of w = 0#8 ∧ rsv1Of w = 0#16 ∧ unusedBitsClear u (operandA w) (operandB w) = true := by
  have m0 : opcOf (maskOf u) = 255#8 := by cases u <;> decide
  have m1 : rsv0Of (maskOf u) = 255#8 := by cases u <;> decide
  have m2 : rsv1Of (maskOf u) = 65535#16 := by cases u <;> decide
  have a1 : operandA (maskOf .unused) = 65535#16 := by decide
  have a2 : operandB (maskOf .unused) = 65535#16 := by decide
  have a3 : operandA (maskOf .aOnly) = 0#16 := by decide
  have a4 : operandB (maskOf .aOnly) = 65535#16 := by decide
  have a5 : operandA (maskOf .aAndB) = 0#16 := by decide
  have a6 : operandB (maskOf .aAndB) = 0#16 := by decide
  have a7 : operandA (maskOf .pOnly) = 65534#16 := by decide
  have a8 : operandB (maskOf .pOnly) = 65535#16 := by decide
  rw [opcode_word_eq_assembleWord, word_eq_iff_fields]
  simp only [opcOf_and, rsv0Of_and, rsv1Of_and, operandA_and, operandB_and, m0, m1, m2, and_ones_byte, and_ones_half,
    opcOf_assembleWord, rsv0Of_assembleWord, rsv1Of_assembleWord, operandA_assembleWord, operandB_assembleWord]
  cases u <;> simp [unusedBitsClear, *, and_fffe_eq_zero_iff, and_ones_half] <;> tauto

end Sys2Proof
end

