-- ==== Sys2Proof/Laws/State.lean ====
section
/-! SUPPORT. One lemma per field per update of the state, so that no proof unfolds a record update. -/

namespace Sys2Proof.Machine

open Sys2Proof

variable (s : State)

/-! ### setGfSel -/

@[simp] theorem State.setGfSel_shProx (g : GainEntry) : (s.setGfSel g).shProx = s.shProx := rfl
@[simp] theorem State.setGfSel_shIred (g : GainEntry) : (s.setGfSel g).shIred = s.shIred := rfl
@[simp] theorem State.setGfSel_shAls (g : GainEntry) : (s.setGfSel g).shAls = s.shAls := rfl
@[simp] theorem State.setGfSel_shInt (g : GainEntry) : (s.setGfSel g).shInt = s.shInt := rfl
@[simp] theorem State.setGfSel_gfSel (g : GainEntry) : (s.setGfSel g).gfSel = g := rfl
@[simp] theorem State.setGfSel_ccMode (g : GainEntry) : (s.setGfSel g).ccMode = s.ccMode := rfl
@[simp] theorem State.setGfSel_cProx (g : GainEntry) : (s.setGfSel g).cProx = s.cProx := rfl
@[simp] theorem State.setGfSel_cAls (g : GainEntry) : (s.setGfSel g).cAls = s.cAls := rfl
@[simp] theorem State.setGfSel_cBlue1 (g : GainEntry) : (s.setGfSel g).cBlue1 = s.cBlue1 := rfl
@[simp] theorem State.setGfSel_cBlue2 (g : GainEntry) : (s.setGfSel g).cBlue2 = s.cBlue2 := rfl
@[simp] theorem State.setGfSel_hsState (g : GainEntry) : (s.setGfSel g).hsState = s.hsState := rfl
@[simp] theorem State.setGfSel_t0 (g : GainEntry) : (s.setGfSel g).t0 = s.t0 := rfl
@[simp] theorem State.setGfSel_sticky (g : GainEntry) : (s.setGfSel g).sticky = s.sticky := rfl
@[simp] theorem State.setGfSel_result (g : GainEntry) : (s.setGfSel g).result = s.result := rfl
@[simp] theorem State.setGfSel_cmdReady (g : GainEntry) : (s.setGfSel g).cmdReady = s.cmdReady := rfl
@[simp] theorem State.setGfSel_rspValid (g : GainEntry) : (s.setGfSel g).rspValid = s.rspValid := rfl
@[simp] theorem State.setGfSel_rspFlags (g : GainEntry) : (s.setGfSel g).rspFlags = s.rspFlags := rfl
@[simp] theorem State.setGfSel_rspData (g : GainEntry) : (s.setGfSel g).rspData = s.rspData := rfl
@[simp] theorem State.setGfSel_inFlight (g : GainEntry) : (s.setGfSel g).inFlight = s.inFlight := rfl
@[simp] theorem State.setGfSel_log (g : GainEntry) : (s.setGfSel g).log = s.log := rfl
@[simp] theorem State.setGfSel_cfg (g : GainEntry) : (s.setGfSel g).cfg = s.cfg := rfl
@[simp] theorem State.setGfSel_env (g : GainEntry) : (s.setGfSel g).env = s.env := rfl

/-! ### enableCc -/

@[simp] theorem State.enableCc_shProx : (s.enableCc).shProx = s.shProx := rfl
@[simp] theorem State.enableCc_shIred : (s.enableCc).shIred = s.shIred := rfl
@[simp] theorem State.enableCc_shAls : (s.enableCc).shAls = s.shAls := rfl
@[simp] theorem State.enableCc_shInt : (s.enableCc).shInt = s.shInt := rfl
@[simp] theorem State.enableCc_gfSel : (s.enableCc).gfSel = s.gfSel := rfl
@[simp] theorem State.enableCc_ccMode : (s.enableCc).ccMode = true := rfl
@[simp] theorem State.enableCc_cProx : (s.enableCc).cProx = s.cProx := rfl
@[simp] theorem State.enableCc_cAls : (s.enableCc).cAls = s.cAls := rfl
@[simp] theorem State.enableCc_cBlue1 : (s.enableCc).cBlue1 = s.cBlue1 := rfl
@[simp] theorem State.enableCc_cBlue2 : (s.enableCc).cBlue2 = s.cBlue2 := rfl
@[simp] theorem State.enableCc_hsState : (s.enableCc).hsState = s.hsState := rfl
@[simp] theorem State.enableCc_t0 : (s.enableCc).t0 = s.t0 := rfl
@[simp] theorem State.enableCc_sticky : (s.enableCc).sticky = s.sticky := rfl
@[simp] theorem State.enableCc_result : (s.enableCc).result = s.result := rfl
@[simp] theorem State.enableCc_cmdReady : (s.enableCc).cmdReady = s.cmdReady := rfl
@[simp] theorem State.enableCc_rspValid : (s.enableCc).rspValid = s.rspValid := rfl
@[simp] theorem State.enableCc_rspFlags : (s.enableCc).rspFlags = s.rspFlags := rfl
@[simp] theorem State.enableCc_rspData : (s.enableCc).rspData = s.rspData := rfl
@[simp] theorem State.enableCc_inFlight : (s.enableCc).inFlight = s.inFlight := rfl
@[simp] theorem State.enableCc_log : (s.enableCc).log = s.log := rfl
@[simp] theorem State.enableCc_cfg : (s.enableCc).cfg = s.cfg := rfl
@[simp] theorem State.enableCc_env : (s.enableCc).env = s.env := rfl

/-! ### setProxAls -/

@[simp] theorem State.setProxAls_shProx (p a : Half) : (s.setProxAls p a).shProx = s.shProx := rfl
@[simp] theorem State.setProxAls_shIred (p a : Half) : (s.setProxAls p a).shIred = s.shIred := rfl
@[simp] theorem State.setProxAls_shAls (p a : Half) : (s.setProxAls p a).shAls = s.shAls := rfl
@[simp] theorem State.setProxAls_shInt (p a : Half) : (s.setProxAls p a).shInt = s.shInt := rfl
@[simp] theorem State.setProxAls_gfSel (p a : Half) : (s.setProxAls p a).gfSel = s.gfSel := rfl
@[simp] theorem State.setProxAls_ccMode (p a : Half) : (s.setProxAls p a).ccMode = s.ccMode := rfl
@[simp] theorem State.setProxAls_cProx (p a : Half) : (s.setProxAls p a).cProx = p := rfl
@[simp] theorem State.setProxAls_cAls (p a : Half) : (s.setProxAls p a).cAls = a := rfl
@[simp] theorem State.setProxAls_cBlue1 (p a : Half) : (s.setProxAls p a).cBlue1 = s.cBlue1 := rfl
@[simp] theorem State.setProxAls_cBlue2 (p a : Half) : (s.setProxAls p a).cBlue2 = s.cBlue2 := rfl
@[simp] theorem State.setProxAls_hsState (p a : Half) : (s.setProxAls p a).hsState = s.hsState := rfl
@[simp] theorem State.setProxAls_t0 (p a : Half) : (s.setProxAls p a).t0 = s.t0 := rfl
@[simp] theorem State.setProxAls_sticky (p a : Half) : (s.setProxAls p a).sticky = s.sticky := rfl
@[simp] theorem State.setProxAls_result (p a : Half) : (s.setProxAls p a).result = s.result := rfl
@[simp] theorem State.setProxAls_cmdReady (p a : Half) : (s.setProxAls p a).cmdReady = s.cmdReady := rfl
@[simp] theorem State.setProxAls_rspValid (p a : Half) : (s.setProxAls p a).rspValid = s.rspValid := rfl
@[simp] theorem State.setProxAls_rspFlags (p a : Half) : (s.setProxAls p a).rspFlags = s.rspFlags := rfl
@[simp] theorem State.setProxAls_rspData (p a : Half) : (s.setProxAls p a).rspData = s.rspData := rfl
@[simp] theorem State.setProxAls_inFlight (p a : Half) : (s.setProxAls p a).inFlight = s.inFlight := rfl
@[simp] theorem State.setProxAls_log (p a : Half) : (s.setProxAls p a).log = s.log := rfl
@[simp] theorem State.setProxAls_cfg (p a : Half) : (s.setProxAls p a).cfg = s.cfg := rfl
@[simp] theorem State.setProxAls_env (p a : Half) : (s.setProxAls p a).env = s.env := rfl

/-! ### setBlues -/

@[simp] theorem State.setBlues_shProx (b1 b2 : Half) : (s.setBlues b1 b2).shProx = s.shProx := rfl
@[simp] theorem State.setBlues_shIred (b1 b2 : Half) : (s.setBlues b1 b2).shIred = s.shIred := rfl
@[simp] theorem State.setBlues_shAls (b1 b2 : Half) : (s.setBlues b1 b2).shAls = s.shAls := rfl
@[simp] theorem State.setBlues_shInt (b1 b2 : Half) : (s.setBlues b1 b2).shInt = s.shInt := rfl
@[simp] theorem State.setBlues_gfSel (b1 b2 : Half) : (s.setBlues b1 b2).gfSel = s.gfSel := rfl
@[simp] theorem State.setBlues_ccMode (b1 b2 : Half) : (s.setBlues b1 b2).ccMode = s.ccMode := rfl
@[simp] theorem State.setBlues_cProx (b1 b2 : Half) : (s.setBlues b1 b2).cProx = s.cProx := rfl
@[simp] theorem State.setBlues_cAls (b1 b2 : Half) : (s.setBlues b1 b2).cAls = s.cAls := rfl
@[simp] theorem State.setBlues_cBlue1 (b1 b2 : Half) : (s.setBlues b1 b2).cBlue1 = b1 := rfl
@[simp] theorem State.setBlues_cBlue2 (b1 b2 : Half) : (s.setBlues b1 b2).cBlue2 = b2 := rfl
@[simp] theorem State.setBlues_hsState (b1 b2 : Half) : (s.setBlues b1 b2).hsState = s.hsState := rfl
@[simp] theorem State.setBlues_t0 (b1 b2 : Half) : (s.setBlues b1 b2).t0 = s.t0 := rfl
@[simp] theorem State.setBlues_sticky (b1 b2 : Half) : (s.setBlues b1 b2).sticky = s.sticky := rfl
@[simp] theorem State.setBlues_result (b1 b2 : Half) : (s.setBlues b1 b2).result = s.result := rfl
@[simp] theorem State.setBlues_cmdReady (b1 b2 : Half) : (s.setBlues b1 b2).cmdReady = s.cmdReady := rfl
@[simp] theorem State.setBlues_rspValid (b1 b2 : Half) : (s.setBlues b1 b2).rspValid = s.rspValid := rfl
@[simp] theorem State.setBlues_rspFlags (b1 b2 : Half) : (s.setBlues b1 b2).rspFlags = s.rspFlags := rfl
@[simp] theorem State.setBlues_rspData (b1 b2 : Half) : (s.setBlues b1 b2).rspData = s.rspData := rfl
@[simp] theorem State.setBlues_inFlight (b1 b2 : Half) : (s.setBlues b1 b2).inFlight = s.inFlight := rfl
@[simp] theorem State.setBlues_log (b1 b2 : Half) : (s.setBlues b1 b2).log = s.log := rfl
@[simp] theorem State.setBlues_cfg (b1 b2 : Half) : (s.setBlues b1 b2).cfg = s.cfg := rfl
@[simp] theorem State.setBlues_env (b1 b2 : Half) : (s.setBlues b1 b2).env = s.env := rfl

/-! ### setHs -/

@[simp] theorem State.setHs_shProx (h : HsState) : (s.setHs h).shProx = s.shProx := rfl
@[simp] theorem State.setHs_shIred (h : HsState) : (s.setHs h).shIred = s.shIred := rfl
@[simp] theorem State.setHs_shAls (h : HsState) : (s.setHs h).shAls = s.shAls := rfl
@[simp] theorem State.setHs_shInt (h : HsState) : (s.setHs h).shInt = s.shInt := rfl
@[simp] theorem State.setHs_gfSel (h : HsState) : (s.setHs h).gfSel = s.gfSel := rfl
@[simp] theorem State.setHs_ccMode (h : HsState) : (s.setHs h).ccMode = s.ccMode := rfl
@[simp] theorem State.setHs_cProx (h : HsState) : (s.setHs h).cProx = s.cProx := rfl
@[simp] theorem State.setHs_cAls (h : HsState) : (s.setHs h).cAls = s.cAls := rfl
@[simp] theorem State.setHs_cBlue1 (h : HsState) : (s.setHs h).cBlue1 = s.cBlue1 := rfl
@[simp] theorem State.setHs_cBlue2 (h : HsState) : (s.setHs h).cBlue2 = s.cBlue2 := rfl
@[simp] theorem State.setHs_hsState (h : HsState) : (s.setHs h).hsState = h := rfl
@[simp] theorem State.setHs_t0 (h : HsState) : (s.setHs h).t0 = s.t0 := rfl
@[simp] theorem State.setHs_sticky (h : HsState) : (s.setHs h).sticky = s.sticky := rfl
@[simp] theorem State.setHs_result (h : HsState) : (s.setHs h).result = s.result := rfl
@[simp] theorem State.setHs_cmdReady (h : HsState) : (s.setHs h).cmdReady = s.cmdReady := rfl
@[simp] theorem State.setHs_rspValid (h : HsState) : (s.setHs h).rspValid = s.rspValid := rfl
@[simp] theorem State.setHs_rspFlags (h : HsState) : (s.setHs h).rspFlags = s.rspFlags := rfl
@[simp] theorem State.setHs_rspData (h : HsState) : (s.setHs h).rspData = s.rspData := rfl
@[simp] theorem State.setHs_inFlight (h : HsState) : (s.setHs h).inFlight = s.inFlight := rfl
@[simp] theorem State.setHs_log (h : HsState) : (s.setHs h).log = s.log := rfl
@[simp] theorem State.setHs_cfg (h : HsState) : (s.setHs h).cfg = s.cfg := rfl
@[simp] theorem State.setHs_env (h : HsState) : (s.setHs h).env = s.env := rfl

/-! ### setT0 -/

@[simp] theorem State.setT0_shProx (t : Millis) : (s.setT0 t).shProx = s.shProx := rfl
@[simp] theorem State.setT0_shIred (t : Millis) : (s.setT0 t).shIred = s.shIred := rfl
@[simp] theorem State.setT0_shAls (t : Millis) : (s.setT0 t).shAls = s.shAls := rfl
@[simp] theorem State.setT0_shInt (t : Millis) : (s.setT0 t).shInt = s.shInt := rfl
@[simp] theorem State.setT0_gfSel (t : Millis) : (s.setT0 t).gfSel = s.gfSel := rfl
@[simp] theorem State.setT0_ccMode (t : Millis) : (s.setT0 t).ccMode = s.ccMode := rfl
@[simp] theorem State.setT0_cProx (t : Millis) : (s.setT0 t).cProx = s.cProx := rfl
@[simp] theorem State.setT0_cAls (t : Millis) : (s.setT0 t).cAls = s.cAls := rfl
@[simp] theorem State.setT0_cBlue1 (t : Millis) : (s.setT0 t).cBlue1 = s.cBlue1 := rfl
@[simp] theorem State.setT0_cBlue2 (t : Millis) : (s.setT0 t).cBlue2 = s.cBlue2 := rfl
@[simp] theorem State.setT0_hsState (t : Millis) : (s.setT0 t).hsState = s.hsState := rfl
@[simp] theorem State.setT0_t0 (t : Millis) : (s.setT0 t).t0 = t := rfl
@[simp] theorem State.setT0_sticky (t : Millis) : (s.setT0 t).sticky = s.sticky := rfl
@[simp] theorem State.setT0_result (t : Millis) : (s.setT0 t).result = s.result := rfl
@[simp] theorem State.setT0_cmdReady (t : Millis) : (s.setT0 t).cmdReady = s.cmdReady := rfl
@[simp] theorem State.setT0_rspValid (t : Millis) : (s.setT0 t).rspValid = s.rspValid := rfl
@[simp] theorem State.setT0_rspFlags (t : Millis) : (s.setT0 t).rspFlags = s.rspFlags := rfl
@[simp] theorem State.setT0_rspData (t : Millis) : (s.setT0 t).rspData = s.rspData := rfl
@[simp] theorem State.setT0_inFlight (t : Millis) : (s.setT0 t).inFlight = s.inFlight := rfl
@[simp] theorem State.setT0_log (t : Millis) : (s.setT0 t).log = s.log := rfl
@[simp] theorem State.setT0_cfg (t : Millis) : (s.setT0 t).cfg = s.cfg := rfl
@[simp] theorem State.setT0_env (t : Millis) : (s.setT0 t).env = s.env := rfl

/-! ### setResult -/

@[simp] theorem State.setResult_shProx (v : Half) : (s.setResult v).shProx = s.shProx := rfl
@[simp] theorem State.setResult_shIred (v : Half) : (s.setResult v).shIred = s.shIred := rfl
@[simp] theorem State.setResult_shAls (v : Half) : (s.setResult v).shAls = s.shAls := rfl
@[simp] theorem State.setResult_shInt (v : Half) : (s.setResult v).shInt = s.shInt := rfl
@[simp] theorem State.setResult_gfSel (v : Half) : (s.setResult v).gfSel = s.gfSel := rfl
@[simp] theorem State.setResult_ccMode (v : Half) : (s.setResult v).ccMode = s.ccMode := rfl
@[simp] theorem State.setResult_cProx (v : Half) : (s.setResult v).cProx = s.cProx := rfl
@[simp] theorem State.setResult_cAls (v : Half) : (s.setResult v).cAls = s.cAls := rfl
@[simp] theorem State.setResult_cBlue1 (v : Half) : (s.setResult v).cBlue1 = s.cBlue1 := rfl
@[simp] theorem State.setResult_cBlue2 (v : Half) : (s.setResult v).cBlue2 = s.cBlue2 := rfl
@[simp] theorem State.setResult_hsState (v : Half) : (s.setResult v).hsState = s.hsState := rfl
@[simp] theorem State.setResult_t0 (v : Half) : (s.setResult v).t0 = s.t0 := rfl
@[simp] theorem State.setResult_sticky (v : Half) : (s.setResult v).sticky = s.sticky := rfl
@[simp] theorem State.setResult_result (v : Half) : (s.setResult v).result = v := rfl
@[simp] theorem State.setResult_cmdReady (v : Half) : (s.setResult v).cmdReady = s.cmdReady := rfl
@[simp] theorem State.setResult_rspValid (v : Half) : (s.setResult v).rspValid = s.rspValid := rfl
@[simp] theorem State.setResult_rspFlags (v : Half) : (s.setResult v).rspFlags = s.rspFlags := rfl
@[simp] theorem State.setResult_rspData (v : Half) : (s.setResult v).rspData = s.rspData := rfl
@[simp] theorem State.setResult_inFlight (v : Half) : (s.setResult v).inFlight = s.inFlight := rfl
@[simp] theorem State.setResult_log (v : Half) : (s.setResult v).log = s.log := rfl
@[simp] theorem State.setResult_cfg (v : Half) : (s.setResult v).cfg = s.cfg := rfl
@[simp] theorem State.setResult_env (v : Half) : (s.setResult v).env = s.env := rfl

/-! ### append -/

@[simp] theorem State.append_shProx (x : LogEntry) : (s.append x).shProx = s.shProx := rfl
@[simp] theorem State.append_shIred (x : LogEntry) : (s.append x).shIred = s.shIred := rfl
@[simp] theorem State.append_shAls (x : LogEntry) : (s.append x).shAls = s.shAls := rfl
@[simp] theorem State.append_shInt (x : LogEntry) : (s.append x).shInt = s.shInt := rfl
@[simp] theorem State.append_gfSel (x : LogEntry) : (s.append x).gfSel = s.gfSel := rfl
@[simp] theorem State.append_ccMode (x : LogEntry) : (s.append x).ccMode = s.ccMode := rfl
@[simp] theorem State.append_cProx (x : LogEntry) : (s.append x).cProx = s.cProx := rfl
@[simp] theorem State.append_cAls (x : LogEntry) : (s.append x).cAls = s.cAls := rfl
@[simp] theorem State.append_cBlue1 (x : LogEntry) : (s.append x).cBlue1 = s.cBlue1 := rfl
@[simp] theorem State.append_cBlue2 (x : LogEntry) : (s.append x).cBlue2 = s.cBlue2 := rfl
@[simp] theorem State.append_hsState (x : LogEntry) : (s.append x).hsState = s.hsState := rfl
@[simp] theorem State.append_t0 (x : LogEntry) : (s.append x).t0 = s.t0 := rfl
@[simp] theorem State.append_sticky (x : LogEntry) : (s.append x).sticky = s.sticky := rfl
@[simp] theorem State.append_result (x : LogEntry) : (s.append x).result = s.result := rfl
@[simp] theorem State.append_cmdReady (x : LogEntry) : (s.append x).cmdReady = s.cmdReady := rfl
@[simp] theorem State.append_rspValid (x : LogEntry) : (s.append x).rspValid = s.rspValid := rfl
@[simp] theorem State.append_rspFlags (x : LogEntry) : (s.append x).rspFlags = s.rspFlags := rfl
@[simp] theorem State.append_rspData (x : LogEntry) : (s.append x).rspData = s.rspData := rfl
@[simp] theorem State.append_inFlight (x : LogEntry) : (s.append x).inFlight = s.inFlight := rfl
@[simp] theorem State.append_log (x : LogEntry) : (s.append x).log = s.log ++ [x] := rfl
@[simp] theorem State.append_cfg (x : LogEntry) : (s.append x).cfg = s.cfg := rfl
@[simp] theorem State.append_env (x : LogEntry) : (s.append x).env = s.env := rfl

/-! ### setEnv -/

@[simp] theorem State.setEnv_shProx (e : Env) : (s.setEnv e).shProx = s.shProx := rfl
@[simp] theorem State.setEnv_shIred (e : Env) : (s.setEnv e).shIred = s.shIred := rfl
@[simp] theorem State.setEnv_shAls (e : Env) : (s.setEnv e).shAls = s.shAls := rfl
@[simp] theorem State.setEnv_shInt (e : Env) : (s.setEnv e).shInt = s.shInt := rfl
@[simp] theorem State.setEnv_gfSel (e : Env) : (s.setEnv e).gfSel = s.gfSel := rfl
@[simp] theorem State.setEnv_ccMode (e : Env) : (s.setEnv e).ccMode = s.ccMode := rfl
@[simp] theorem State.setEnv_cProx (e : Env) : (s.setEnv e).cProx = s.cProx := rfl
@[simp] theorem State.setEnv_cAls (e : Env) : (s.setEnv e).cAls = s.cAls := rfl
@[simp] theorem State.setEnv_cBlue1 (e : Env) : (s.setEnv e).cBlue1 = s.cBlue1 := rfl
@[simp] theorem State.setEnv_cBlue2 (e : Env) : (s.setEnv e).cBlue2 = s.cBlue2 := rfl
@[simp] theorem State.setEnv_hsState (e : Env) : (s.setEnv e).hsState = s.hsState := rfl
@[simp] theorem State.setEnv_t0 (e : Env) : (s.setEnv e).t0 = s.t0 := rfl
@[simp] theorem State.setEnv_sticky (e : Env) : (s.setEnv e).sticky = s.sticky := rfl
@[simp] theorem State.setEnv_result (e : Env) : (s.setEnv e).result = s.result := rfl
@[simp] theorem State.setEnv_cmdReady (e : Env) : (s.setEnv e).cmdReady = s.cmdReady := rfl
@[simp] theorem State.setEnv_rspValid (e : Env) : (s.setEnv e).rspValid = s.rspValid := rfl
@[simp] theorem State.setEnv_rspFlags (e : Env) : (s.setEnv e).rspFlags = s.rspFlags := rfl
@[simp] theorem State.setEnv_rspData (e : Env) : (s.setEnv e).rspData = s.rspData := rfl
@[simp] theorem State.setEnv_inFlight (e : Env) : (s.setEnv e).inFlight = s.inFlight := rfl
@[simp] theorem State.setEnv_log (e : Env) : (s.setEnv e).log = s.log := rfl
@[simp] theorem State.setEnv_cfg (e : Env) : (s.setEnv e).cfg = s.cfg := rfl
@[simp] theorem State.setEnv_env (e : Env) : (s.setEnv e).env = e := rfl

/-! ### accept -/

@[simp] theorem State.accept_shProx : (s.accept).shProx = s.shProx := rfl
@[simp] theorem State.accept_shIred : (s.accept).shIred = s.shIred := rfl
@[simp] theorem State.accept_shAls : (s.accept).shAls = s.shAls := rfl
@[simp] theorem State.accept_shInt : (s.accept).shInt = s.shInt := rfl
@[simp] theorem State.accept_gfSel : (s.accept).gfSel = s.gfSel := rfl
@[simp] theorem State.accept_ccMode : (s.accept).ccMode = s.ccMode := rfl
@[simp] theorem State.accept_cProx : (s.accept).cProx = s.cProx := rfl
@[simp] theorem State.accept_cAls : (s.accept).cAls = s.cAls := rfl
@[simp] theorem State.accept_cBlue1 : (s.accept).cBlue1 = s.cBlue1 := rfl
@[simp] theorem State.accept_cBlue2 : (s.accept).cBlue2 = s.cBlue2 := rfl
@[simp] theorem State.accept_hsState : (s.accept).hsState = s.hsState := rfl
@[simp] theorem State.accept_t0 : (s.accept).t0 = s.t0 := rfl
@[simp] theorem State.accept_sticky : (s.accept).sticky = s.sticky := rfl
@[simp] theorem State.accept_result : (s.accept).result = s.result := rfl
@[simp] theorem State.accept_cmdReady : (s.accept).cmdReady = false := rfl
@[simp] theorem State.accept_rspValid : (s.accept).rspValid = false := rfl
@[simp] theorem State.accept_rspFlags : (s.accept).rspFlags = s.rspFlags := rfl
@[simp] theorem State.accept_rspData : (s.accept).rspData = s.rspData := rfl
@[simp] theorem State.accept_inFlight : (s.accept).inFlight = s.inFlight := rfl
@[simp] theorem State.accept_log : (s.accept).log = s.log := rfl
@[simp] theorem State.accept_cfg : (s.accept).cfg = s.cfg := rfl
@[simp] theorem State.accept_env : (s.accept).env = s.env.dropEvent := rfl

/-! ### respond -/

@[simp] theorem State.respond_shProx (f : Flags) : (s.respond f).shProx = s.shProx := rfl
@[simp] theorem State.respond_shIred (f : Flags) : (s.respond f).shIred = s.shIred := rfl
@[simp] theorem State.respond_shAls (f : Flags) : (s.respond f).shAls = s.shAls := rfl
@[simp] theorem State.respond_shInt (f : Flags) : (s.respond f).shInt = s.shInt := rfl
@[simp] theorem State.respond_gfSel (f : Flags) : (s.respond f).gfSel = s.gfSel := rfl
@[simp] theorem State.respond_ccMode (f : Flags) : (s.respond f).ccMode = s.ccMode := rfl
@[simp] theorem State.respond_cProx (f : Flags) : (s.respond f).cProx = s.cProx := rfl
@[simp] theorem State.respond_cAls (f : Flags) : (s.respond f).cAls = s.cAls := rfl
@[simp] theorem State.respond_cBlue1 (f : Flags) : (s.respond f).cBlue1 = s.cBlue1 := rfl
@[simp] theorem State.respond_cBlue2 (f : Flags) : (s.respond f).cBlue2 = s.cBlue2 := rfl
@[simp] theorem State.respond_hsState (f : Flags) : (s.respond f).hsState = s.hsState := rfl
@[simp] theorem State.respond_t0 (f : Flags) : (s.respond f).t0 = s.t0 := rfl
@[simp] theorem State.respond_sticky (f : Flags) : (s.respond f).sticky = s.sticky ||| f := rfl
@[simp] theorem State.respond_result (f : Flags) : (s.respond f).result = s.result := rfl
@[simp] theorem State.respond_cmdReady (f : Flags) : (s.respond f).cmdReady = true := rfl
@[simp] theorem State.respond_rspValid (f : Flags) : (s.respond f).rspValid = true := rfl
@[simp] theorem State.respond_rspFlags (f : Flags) : (s.respond f).rspFlags = f := rfl
@[simp] theorem State.respond_rspData (f : Flags) : (s.respond f).rspData = s.result := rfl
@[simp] theorem State.respond_inFlight (f : Flags) : (s.respond f).inFlight = none := rfl
@[simp] theorem State.respond_log (f : Flags) : (s.respond f).log = s.log := rfl
@[simp] theorem State.respond_cfg (f : Flags) : (s.respond f).cfg = s.cfg := rfl
@[simp] theorem State.respond_env (f : Flags) : (s.respond f).env = s.env := rfl

/-! ### suspend -/

@[simp] theorem State.suspend_shProx (c : InFlight) : (s.suspend c).shProx = s.shProx := rfl
@[simp] theorem State.suspend_shIred (c : InFlight) : (s.suspend c).shIred = s.shIred := rfl
@[simp] theorem State.suspend_shAls (c : InFlight) : (s.suspend c).shAls = s.shAls := rfl
@[simp] theorem State.suspend_shInt (c : InFlight) : (s.suspend c).shInt = s.shInt := rfl
@[simp] theorem State.suspend_gfSel (c : InFlight) : (s.suspend c).gfSel = s.gfSel := rfl
@[simp] theorem State.suspend_ccMode (c : InFlight) : (s.suspend c).ccMode = s.ccMode := rfl
@[simp] theorem State.suspend_cProx (c : InFlight) : (s.suspend c).cProx = s.cProx := rfl
@[simp] theorem State.suspend_cAls (c : InFlight) : (s.suspend c).cAls = s.cAls := rfl
@[simp] theorem State.suspend_cBlue1 (c : InFlight) : (s.suspend c).cBlue1 = s.cBlue1 := rfl
@[simp] theorem State.suspend_cBlue2 (c : InFlight) : (s.suspend c).cBlue2 = s.cBlue2 := rfl
@[simp] theorem State.suspend_hsState (c : InFlight) : (s.suspend c).hsState = s.hsState := rfl
@[simp] theorem State.suspend_t0 (c : InFlight) : (s.suspend c).t0 = s.t0 := rfl
@[simp] theorem State.suspend_sticky (c : InFlight) : (s.suspend c).sticky = s.sticky := rfl
@[simp] theorem State.suspend_result (c : InFlight) : (s.suspend c).result = s.result := rfl
@[simp] theorem State.suspend_cmdReady (c : InFlight) : (s.suspend c).cmdReady = false := rfl
@[simp] theorem State.suspend_rspValid (c : InFlight) : (s.suspend c).rspValid = false := rfl
@[simp] theorem State.suspend_rspFlags (c : InFlight) : (s.suspend c).rspFlags = s.rspFlags := rfl
@[simp] theorem State.suspend_rspData (c : InFlight) : (s.suspend c).rspData = s.rspData := rfl
@[simp] theorem State.suspend_inFlight (c : InFlight) : (s.suspend c).inFlight = some c := rfl
@[simp] theorem State.suspend_log (c : InFlight) : (s.suspend c).log = s.log := rfl
@[simp] theorem State.suspend_cfg (c : InFlight) : (s.suspend c).cfg = s.cfg := rfl
@[simp] theorem State.suspend_env (c : InFlight) : (s.suspend c).env = s.env := rfl

/-! ### setShadow -/

@[simp] theorem State.setShadow_gfSel (x : Shadow) (v : Byte) : (s.setShadow x v).gfSel = s.gfSel := by cases x <;> rfl
@[simp] theorem State.setShadow_ccMode (x : Shadow) (v : Byte) : (s.setShadow x v).ccMode = s.ccMode := by cases x <;> rfl
@[simp] theorem State.setShadow_cProx (x : Shadow) (v : Byte) : (s.setShadow x v).cProx = s.cProx := by cases x <;> rfl
@[simp] theorem State.setShadow_cAls (x : Shadow) (v : Byte) : (s.setShadow x v).cAls = s.cAls := by cases x <;> rfl
@[simp] theorem State.setShadow_cBlue1 (x : Shadow) (v : Byte) : (s.setShadow x v).cBlue1 = s.cBlue1 := by cases x <;> rfl
@[simp] theorem State.setShadow_cBlue2 (x : Shadow) (v : Byte) : (s.setShadow x v).cBlue2 = s.cBlue2 := by cases x <;> rfl
@[simp] theorem State.setShadow_hsState (x : Shadow) (v : Byte) : (s.setShadow x v).hsState = s.hsState := by cases x <;> rfl
@[simp] theorem State.setShadow_t0 (x : Shadow) (v : Byte) : (s.setShadow x v).t0 = s.t0 := by cases x <;> rfl
@[simp] theorem State.setShadow_sticky (x : Shadow) (v : Byte) : (s.setShadow x v).sticky = s.sticky := by cases x <;> rfl
@[simp] theorem State.setShadow_result (x : Shadow) (v : Byte) : (s.setShadow x v).result = s.result := by cases x <;> rfl
@[simp] theorem State.setShadow_cmdReady (x : Shadow) (v : Byte) : (s.setShadow x v).cmdReady = s.cmdReady := by cases x <;> rfl
@[simp] theorem State.setShadow_rspValid (x : Shadow) (v : Byte) : (s.setShadow x v).rspValid = s.rspValid := by cases x <;> rfl
@[simp] theorem State.setShadow_rspFlags (x : Shadow) (v : Byte) : (s.setShadow x v).rspFlags = s.rspFlags := by cases x <;> rfl
@[simp] theorem State.setShadow_rspData (x : Shadow) (v : Byte) : (s.setShadow x v).rspData = s.rspData := by cases x <;> rfl
@[simp] theorem State.setShadow_inFlight (x : Shadow) (v : Byte) : (s.setShadow x v).inFlight = s.inFlight := by cases x <;> rfl
@[simp] theorem State.setShadow_log (x : Shadow) (v : Byte) : (s.setShadow x v).log = s.log := by cases x <;> rfl
@[simp] theorem State.setShadow_cfg (x : Shadow) (v : Byte) : (s.setShadow x v).cfg = s.cfg := by cases x <;> rfl
@[simp] theorem State.setShadow_env (x : Shadow) (v : Byte) : (s.setShadow x v).env = s.env := by cases x <;> rfl
@[simp] theorem State.setShadow_prox_shProx (v : Byte) : (s.setShadow .prox v).shProx = v := rfl
@[simp] theorem State.setShadow_prox_shIred (v : Byte) : (s.setShadow .prox v).shIred = s.shIred := rfl
@[simp] theorem State.setShadow_prox_shAls (v : Byte) : (s.setShadow .prox v).shAls = s.shAls := rfl
@[simp] theorem State.setShadow_prox_shInt (v : Byte) : (s.setShadow .prox v).shInt = s.shInt := rfl
@[simp] theorem State.setShadow_ired_shProx (v : Byte) : (s.setShadow .ired v).shProx = s.shProx := rfl
@[simp] theorem State.setShadow_ired_shIred (v : Byte) : (s.setShadow .ired v).shIred = v := rfl
@[simp] theorem State.setShadow_ired_shAls (v : Byte) : (s.setShadow .ired v).shAls = s.shAls := rfl
@[simp] theorem State.setShadow_ired_shInt (v : Byte) : (s.setShadow .ired v).shInt = s.shInt := rfl
@[simp] theorem State.setShadow_als_shProx (v : Byte) : (s.setShadow .als v).shProx = s.shProx := rfl
@[simp] theorem State.setShadow_als_shIred (v : Byte) : (s.setShadow .als v).shIred = s.shIred := rfl
@[simp] theorem State.setShadow_als_shAls (v : Byte) : (s.setShadow .als v).shAls = v := rfl
@[simp] theorem State.setShadow_als_shInt (v : Byte) : (s.setShadow .als v).shInt = s.shInt := rfl
@[simp] theorem State.setShadow_int_shProx (v : Byte) : (s.setShadow .int v).shProx = s.shProx := rfl
@[simp] theorem State.setShadow_int_shIred (v : Byte) : (s.setShadow .int v).shIred = s.shIred := rfl
@[simp] theorem State.setShadow_int_shAls (v : Byte) : (s.setShadow .int v).shAls = s.shAls := rfl
@[simp] theorem State.setShadow_int_shInt (v : Byte) : (s.setShadow .int v).shInt = v := rfl

@[simp] theorem State.shadow_prox : s.shadow .prox = s.shProx := rfl
@[simp] theorem State.shadow_ired : s.shadow .ired = s.shIred := rfl
@[simp] theorem State.shadow_als : s.shadow .als = s.shAls := rfl
@[simp] theorem State.shadow_int : s.shadow .int = s.shInt := rfl
@[simp] theorem State.setShadow_shadow_same (x : Shadow) (v : Byte) : (s.setShadow x v).shadow x = v := by cases x <;> rfl
theorem State.setShadow_shadow_other (x y : Shadow) (v : Byte) (h : y ≠ x) : (s.setShadow x v).shadow y = s.shadow y := by
  cases x <;> cases y <;> first | rfl | exact absurd rfl h
@[simp] theorem State.setGfSel_shadow (g : GainEntry) (y : Shadow) : (s.setGfSel g).shadow y = s.shadow y := by cases y <;> rfl
@[simp] theorem State.enableCc_shadow (y : Shadow) : (s.enableCc).shadow y = s.shadow y := by cases y <;> rfl
@[simp] theorem State.setProxAls_shadow (p a : Half) (y : Shadow) : (s.setProxAls p a).shadow y = s.shadow y := by cases y <;> rfl
@[simp] theorem State.setBlues_shadow (b1 b2 : Half) (y : Shadow) : (s.setBlues b1 b2).shadow y = s.shadow y := by cases y <;> rfl
@[simp] theorem State.setHs_shadow (h : HsState) (y : Shadow) : (s.setHs h).shadow y = s.shadow y := by cases y <;> rfl
@[simp] theorem State.setT0_shadow (t : Millis) (y : Shadow) : (s.setT0 t).shadow y = s.shadow y := by cases y <;> rfl
@[simp] theorem State.setResult_shadow (v : Half) (y : Shadow) : (s.setResult v).shadow y = s.shadow y := by cases y <;> rfl
@[simp] theorem State.append_shadow (x : LogEntry) (y : Shadow) : (s.append x).shadow y = s.shadow y := by cases y <;> rfl
@[simp] theorem State.setEnv_shadow (e : Env) (y : Shadow) : (s.setEnv e).shadow y = s.shadow y := by cases y <;> rfl
@[simp] theorem State.accept_shadow (y : Shadow) : (s.accept).shadow y = s.shadow y := by cases y <;> rfl
@[simp] theorem State.respond_shadow (f : Flags) (y : Shadow) : (s.respond f).shadow y = s.shadow y := by cases y <;> rfl
@[simp] theorem State.suspend_shadow (c : InFlight) (y : Shadow) : (s.suspend c).shadow y = s.shadow y := by cases y <;> rfl

/-! ### power-on reset -/

@[simp] theorem State.powerOn_shProx (c : Cfg) : (State.powerOn c).shProx = 0x00#8 := rfl
@[simp] theorem State.powerOn_shIred (c : Cfg) : (State.powerOn c).shIred = 0x00#8 := rfl
@[simp] theorem State.powerOn_shAls (c : Cfg) : (State.powerOn c).shAls = 0x00#8 := rfl
@[simp] theorem State.powerOn_shInt (c : Cfg) : (State.powerOn c).shInt = 0x00#8 := rfl
@[simp] theorem State.powerOn_gfSel (c : Cfg) : (State.powerOn c).gfSel = .fa200 := rfl
@[simp] theorem State.powerOn_ccMode (c : Cfg) : (State.powerOn c).ccMode = false := rfl
@[simp] theorem State.powerOn_cProx (c : Cfg) : (State.powerOn c).cProx = 0x0000#16 := rfl
@[simp] theorem State.powerOn_cAls (c : Cfg) : (State.powerOn c).cAls = 0x0000#16 := rfl
@[simp] theorem State.powerOn_cBlue1 (c : Cfg) : (State.powerOn c).cBlue1 = 0x0000#16 := rfl
@[simp] theorem State.powerOn_cBlue2 (c : Cfg) : (State.powerOn c).cBlue2 = 0x0000#16 := rfl
@[simp] theorem State.powerOn_hsState (c : Cfg) : (State.powerOn c).hsState = .idle := rfl
@[simp] theorem State.powerOn_t0 (c : Cfg) : (State.powerOn c).t0 = 0x00000000#32 := rfl
@[simp] theorem State.powerOn_sticky (c : Cfg) : (State.powerOn c).sticky = 0b0000#4 := rfl
@[simp] theorem State.powerOn_result (c : Cfg) : (State.powerOn c).result = 0x0000#16 := rfl
@[simp] theorem State.powerOn_cmdReady (c : Cfg) : (State.powerOn c).cmdReady = true := rfl
@[simp] theorem State.powerOn_rspValid (c : Cfg) : (State.powerOn c).rspValid = false := rfl
@[simp] theorem State.powerOn_rspFlags (c : Cfg) : (State.powerOn c).rspFlags = 0b0000#4 := rfl
@[simp] theorem State.powerOn_rspData (c : Cfg) : (State.powerOn c).rspData = 0x0000#16 := rfl
@[simp] theorem State.powerOn_inFlight (c : Cfg) : (State.powerOn c).inFlight = none := rfl
@[simp] theorem State.powerOn_log (c : Cfg) : (State.powerOn c).log = [] := rfl
@[simp] theorem State.powerOn_cfg (c : Cfg) : (State.powerOn c).cfg = c := rfl
@[simp] theorem State.powerOn_env (c : Cfg) : (State.powerOn c).env = Env.empty := rfl
@[simp] theorem State.powerOnReset_shProx : s.powerOnReset.shProx = 0x00#8 := rfl
@[simp] theorem State.powerOnReset_shIred : s.powerOnReset.shIred = 0x00#8 := rfl
@[simp] theorem State.powerOnReset_shAls : s.powerOnReset.shAls = 0x00#8 := rfl
@[simp] theorem State.powerOnReset_shInt : s.powerOnReset.shInt = 0x00#8 := rfl
@[simp] theorem State.powerOnReset_gfSel : s.powerOnReset.gfSel = .fa200 := rfl
@[simp] theorem State.powerOnReset_ccMode : s.powerOnReset.ccMode = false := rfl
@[simp] theorem State.powerOnReset_cProx : s.powerOnReset.cProx = 0x0000#16 := rfl
@[simp] theorem State.powerOnReset_cAls : s.powerOnReset.cAls = 0x0000#16 := rfl
@[simp] theorem State.powerOnReset_cBlue1 : s.powerOnReset.cBlue1 = 0x0000#16 := rfl
@[simp] theorem State.powerOnReset_cBlue2 : s.powerOnReset.cBlue2 = 0x0000#16 := rfl
@[simp] theorem State.powerOnReset_hsState : s.powerOnReset.hsState = .idle := rfl
@[simp] theorem State.powerOnReset_t0 : s.powerOnReset.t0 = 0x00000000#32 := rfl
@[simp] theorem State.powerOnReset_sticky : s.powerOnReset.sticky = 0b0000#4 := rfl
@[simp] theorem State.powerOnReset_result : s.powerOnReset.result = 0x0000#16 := rfl
@[simp] theorem State.powerOnReset_cmdReady : s.powerOnReset.cmdReady = true := rfl
@[simp] theorem State.powerOnReset_rspValid : s.powerOnReset.rspValid = false := rfl
@[simp] theorem State.powerOnReset_rspFlags : s.powerOnReset.rspFlags = 0b0000#4 := rfl
@[simp] theorem State.powerOnReset_rspData : s.powerOnReset.rspData = 0x0000#16 := rfl
@[simp] theorem State.powerOnReset_inFlight : s.powerOnReset.inFlight = none := rfl
@[simp] theorem State.powerOnReset_log : s.powerOnReset.log = [] := rfl
@[simp] theorem State.powerOnReset_cfg : s.powerOnReset.cfg = s.cfg := rfl
@[simp] theorem State.powerOnReset_env : s.powerOnReset.env = s.env.dropEvent := rfl

end Sys2Proof.Machine
end

