-- ==== Sys2Proof/Laws/Ops.lean ====
section
/-! SUPPORT. What each shared operation does, said once: the provers cite these lemmas instead of unfolding the operations. -/

namespace Sys2Proof.Machine

open Sys2Proof

/-! ## The inputs -/

section Inputs

variable (e : Env) (j k : Nat)

@[simp] theorem Env.ackAt_dropAcks : (e.dropAcks j).ackAt k = e.ackAt (j + k) := by
  simp [Env.ackAt, Env.dropAcks, Nat.add_assoc]

@[simp] theorem Env.replyAt_dropReplies : (e.dropReplies j).replyAt k = e.replyAt (j + k) := by
  simp [Env.replyAt, Env.dropReplies, Nat.add_assoc]

@[simp] theorem Env.advanceAt_dropClocks : (e.dropClocks j).advanceAt k = e.advanceAt (j + k) := by
  simp [Env.advanceAt, Env.dropClocks, Nat.add_assoc]

@[simp] theorem Env.counterAfter_dropClocks : (e.dropClocks j).counterAfter k = e.counterAfter (j + k) := by
  induction k with
  | zero => rfl
  | succ k ih => rw [Env.counterAfter, ih, Env.advanceAt_dropClocks, ← Nat.add_assoc, Env.counterAfter]

@[simp] theorem Env.clockAt_dropClocks : (e.dropClocks j).clockAt k = e.clockAt (j + k) := by
  simp [Env.clockAt, Nat.add_assoc]

/-- The counter depends only on where it stands, its advances, and how many of them are used up. -/
theorem Env.counterAfter_congr {e e' : Env} (hn : e.now = e'.now) (ha : e.advances = e'.advances)
    (hd : e.clocksDrawn = e'.clocksDrawn) : e.counterAfter k = e'.counterAfter k := by
  induction k with
  | zero => exact hn
  | succ k ih => rw [Env.counterAfter, Env.counterAfter, ih, Env.advanceAt, Env.advanceAt, ha, hd]

@[simp] theorem Env.counterAfter_dropAcks : (e.dropAcks j).counterAfter k = e.counterAfter k :=
  Env.counterAfter_congr k rfl rfl rfl

@[simp] theorem Env.counterAfter_dropReplies : (e.dropReplies j).counterAfter k = e.counterAfter k :=
  Env.counterAfter_congr k rfl rfl rfl

@[simp] theorem Env.counterAfter_dropEvent : e.dropEvent.counterAfter k = e.counterAfter k :=
  Env.counterAfter_congr k rfl rfl rfl

/-- The counter never runs back (R243). -/
theorem Env.counterAfter_mono {j k : Nat} (h : j ≤ k) : e.counterAfter j ≤ e.counterAfter k := by
  induction h with
  | refl => exact Nat.le_refl _
  | step _ ih => exact Nat.le_trans ih (Nat.le_add_right _ _)

@[simp] theorem Env.ackAt_dropReplies : (e.dropReplies j).ackAt k = e.ackAt k := rfl
@[simp] theorem Env.ackAt_dropClocks : (e.dropClocks j).ackAt k = e.ackAt k := rfl
@[simp] theorem Env.replyAt_dropAcks : (e.dropAcks j).replyAt k = e.replyAt k := rfl
@[simp] theorem Env.replyAt_dropClocks : (e.dropClocks j).replyAt k = e.replyAt k := rfl
@[simp] theorem Env.clockAt_dropAcks : (e.dropAcks j).clockAt k = e.clockAt k := by simp [Env.clockAt]
@[simp] theorem Env.clockAt_dropReplies : (e.dropReplies j).clockAt k = e.clockAt k := by simp [Env.clockAt]
@[simp] theorem Env.ackAt_dropEvent : e.dropEvent.ackAt k = e.ackAt k := rfl
@[simp] theorem Env.replyAt_dropEvent : e.dropEvent.replyAt k = e.replyAt k := rfl
@[simp] theorem Env.clockAt_dropEvent : e.dropEvent.clockAt k = e.clockAt k := by simp [Env.clockAt]

@[simp] theorem Env.dropAcks_dropAcks : (e.dropAcks j).dropAcks k = e.dropAcks (j + k) := by
  simp [Env.dropAcks, Nat.add_assoc]

@[simp] theorem Env.dropReplies_dropReplies : (e.dropReplies j).dropReplies k = e.dropReplies (j + k) := by
  simp [Env.dropReplies, Nat.add_assoc]

@[simp] theorem Env.dropClocks_dropClocks : (e.dropClocks j).dropClocks k = e.dropClocks (j + k) := by
  rw [Env.dropClocks, Env.counterAfter_dropClocks]
  simp [Env.dropClocks, Nat.add_assoc]

/-- The normal form of what has been drawn: acknowledgements innermost, then replies, then clock samples. -/
@[simp] theorem Env.dropReplies_dropClocks :
    (e.dropClocks j).dropReplies k = (e.dropReplies k).dropClocks j := by
  rw [Env.dropClocks, Env.dropClocks, Env.counterAfter_dropReplies]
  rfl

@[simp] theorem Env.dropAcks_dropClocks : (e.dropClocks j).dropAcks k = (e.dropAcks k).dropClocks j := by
  rw [Env.dropClocks, Env.dropClocks, Env.counterAfter_dropAcks]
  rfl

@[simp] theorem Env.dropAcks_dropReplies : (e.dropReplies j).dropAcks k = (e.dropAcks k).dropReplies j := rfl

@[simp] theorem Env.dropAcks_zero : e.dropAcks 0 = e := by simp [Env.dropAcks]
@[simp] theorem Env.dropReplies_zero : e.dropReplies 0 = e := by simp [Env.dropReplies]
@[simp] theorem Env.dropClocks_zero : e.dropClocks 0 = e := by simp [Env.dropClocks, Env.counterAfter]

@[simp] theorem Env.events_dropAcks : (e.dropAcks k).events = e.events := rfl
@[simp] theorem Env.events_dropReplies : (e.dropReplies k).events = e.events := rfl
@[simp] theorem Env.events_dropClocks : (e.dropClocks k).events = e.events := rfl
@[simp] theorem Env.events_dropEvent : e.dropEvent.events = e.events.tail := rfl
@[simp] theorem Env.replies_dropAcks : (e.dropAcks k).replies = e.replies := rfl
@[simp] theorem Env.replies_dropReplies : (e.dropReplies k).replies = e.replies.drop k := rfl
@[simp] theorem Env.replies_dropClocks : (e.dropClocks k).replies = e.replies := rfl
@[simp] theorem Env.replies_dropEvent : e.dropEvent.replies = e.replies := rfl

end Inputs

/-! ## The flags -/

/-- The two flags a transaction can leave in a command that had raised BUS_ERR or nothing. -/
theorem raiseUnlessAcked_nackFlag (a b : Bool) : raiseUnlessAcked a (nackFlag b) = nackFlag (b && a) := by
  cases a <;> cases b <;> rfl

theorem raiseUnlessAcked_zero (a : Bool) : raiseUnlessAcked a 0b0000#4 = nackFlag a := by
  cases a <;> rfl

theorem raiseUnlessAcked_eq_or (a : Bool) (f : Flags) : raiseUnlessAcked a f = f ||| nackFlag a := by
  cases a <;> simp [raiseUnlessAcked, nackFlag, raiseFlag, busErr]

/-! ## The ports -/

/-- One write transaction: its acknowledgement is the next one of the inputs, and its entry is the log's new last. -/
theorem memWrite_eq (addr v : Byte) (s : State) :
    memWrite addr v s = (s.env.ackAt 0,
      { s with env := s.env.dropAcks 1, log := s.log ++ [.write s.cfg.devAddr7 addr v (s.env.ackAt 0)] }) := rfl

/-- One read transaction: its reply is the next one of the inputs, and its entry is the log's new last. -/
theorem memRead_eq (addr : Byte) (n : Nat) (s : State) :
    memRead addr n s = (s.env.replyAt 0,
      { s with env := s.env.dropReplies 1, log := s.log ++ [readEntry s addr n (s.env.replyAt 0)] }) := by
  unfold memRead readEntry
  cases s.env.replyAt 0 <;> rfl

/-- One clock sample. -/
theorem clockNow_eq (s : State) :
    clockNow s = (s.env.clockAt 0,
      { s with env := s.env.dropClocks 1, log := s.log ++ [.clock (s.env.clockAt 0)] }) := rfl

/-- The response of the machine is the response that statements speak of. -/
theorem respond_eq_doneWith (s : State) (f : Flags) : s.respond f = doneWith s f := rfl

/-- A condition that ends a command leaves its one flag in the response and changes nothing else. -/
theorem abortWith_eq_doneWith (s : State) (e : Flags) : s.abortWith e = doneWith s e := by
  simp [State.abortWith, raiseFlag, respond_eq_doneWith]

/-- A getter or accessor: `RESULT` and `rsp_data` take the value, `rsp_flags` is 0 and `STICKY` stays. -/
theorem answer_eq (s : State) (v : Half) :
    s.answer v = { s with
      result := v, rspData := v, rspFlags := 0b0000#4, rspValid := true, cmdReady := true, inFlight := none } := by
  simp [State.answer, State.respond, State.setResult]

/-! ## Inside a command -/

/-- A write inside a command: it raises BUS_ERR when it is not acknowledged, and appends its entry. -/
theorem Run.write_eq (r : Run) (addr v : Byte) :
    r.write addr v = ⟨raiseUnlessAcked (r.state.env.ackAt 0) r.flags,
      { r.state with
        env := r.state.env.dropAcks 1
        log := r.state.log ++ [.write r.state.cfg.devAddr7 addr v (r.state.env.ackAt 0)] }⟩ := rfl

/-- R110, whole: the field write is a new shadow value and one write of it. -/
theorem Run.fieldWrite_eq (r : Run) (x : Shadow) (addr mask code : Byte) :
    r.fieldWrite x addr mask code =
      (r.modify (fun s => s.setShadow x ((r.state.shadow x &&& ~~~mask) ||| code))).write addr
        ((r.state.shadow x &&& ~~~mask) ||| code) := rfl

/-- The four threshold writes: the flags take all four acknowledgements, and four entries are appended in order. -/
theorem Run.writeThresholds_eq (r : Run) (topH topL botH botL : Byte) (top bottom : Half) :
    r.writeThresholds topH topL botH botL top bottom =
      ⟨raiseUnlessAcked (r.state.env.ackAt 3) (raiseUnlessAcked (r.state.env.ackAt 2)
          (raiseUnlessAcked (r.state.env.ackAt 1) (raiseUnlessAcked (r.state.env.ackAt 0) r.flags))),
        { r.state with
          env := r.state.env.dropAcks 4
          log := r.state.log ++
            [writeEntry r.state 0 topH (thHi r.state.cfg.thHiPolicy top), writeEntry r.state 1 topL (thLo top),
             writeEntry r.state 2 botH (thHi r.state.cfg.thHiPolicy bottom), writeEntry r.state 3 botL (thLo bottom)] }⟩ := by
  simp [Run.writeThresholds, Run.write_eq, writeEntry]

/-- The end of a handshake, by the reply to the final read. -/
theorem Run.finalRead_eq (r : Run) (h : Byte) :
    r.finalRead h = match r.state.env.replyAt 0 with
      | .nack => doneWith
          { r.state with
            env := r.state.env.dropReplies 1
            log := r.state.log ++ [.read r.state.cfg.devAddr7 h 2 false []] } (raiseFlag busErr r.flags)
      | .data d => doneWith
          { r.state with
            env := r.state.env.dropReplies 1
            log := r.state.log ++ [.read r.state.cfg.devAddr7 h 2 true (d.toList.take 2)]
            result := pair d[0] d[1] } r.flags := by
  unfold Run.finalRead
  simp only [memRead_eq, readEntry]
  cases r.state.env.replyAt 0 <;> rfl

/-! ## The poll loop -/

/-- No round left: the command stays in flight. -/
theorem pollLoop_zero (h : Byte) (r : Run) : pollLoop 0 h r = r.state.suspend ⟨h, r.flags⟩ := rfl

/-- The state after a poll. -/
def afterPoll (s : State) : State := (memRead s.cfg.aCmd 1 s).2

/-- The state after a poll and the clock sample that follows it. -/
def afterRound (s : State) : State := (clockNow (afterPoll s)).2

theorem afterPoll_eq (s : State) : afterPoll s =
    { s with env := s.env.dropReplies 1, log := s.log ++ [readEntry s s.cfg.aCmd 1 (s.env.replyAt 0)] } := by
  rw [afterPoll, memRead_eq]

theorem afterRound_eq (s : State) : afterRound s =
    { s with
      env := (s.env.dropReplies 1).dropClocks 1
      log := s.log ++ [readEntry s s.cfg.aCmd 1 (s.env.replyAt 0), .clock (s.env.clockAt 0)] } := by
  rw [afterRound, clockNow_eq, afterPoll_eq]
  simp

/-- One round of the poll loop, by its three outcomes: the flag is seen; the time is up; the loop goes on. -/
theorem pollLoop_succ (k : Nat) (h : Byte) (r : Run) :
    pollLoop (k + 1) h r =
      if pollDone (r.state.env.replyAt 0) then Run.finalRead ⟨r.flags, (afterPoll r.state).setHs .ready⟩ h
      else if pastDeadline (r.state.env.clockAt 0) r.state.t0 then
        Run.finalRead ⟨raiseFlag timeoutErr (raiseUnlessAcked (replyAcked (r.state.env.replyAt 0)) r.flags),
          (afterRound r.state).setHs .timedOut⟩ h
      else pollLoop k h ⟨raiseUnlessAcked (replyAcked (r.state.env.replyAt 0)) r.flags, afterRound r.state⟩ := by
  rw [pollLoop]
  simp only [afterPoll, afterRound, memRead_eq, clockNow_eq, State.setHs, Env.clockAt_dropReplies]

/-- What the deadline test says in numbers. -/
theorem pastDeadline_iff (t t0 : Millis) : pastDeadline t t0 = true ↔ 1000 < (t - t0).toNat := by
  simp [pastDeadline, BitVec.lt_def]

/-- The trigger of a handshake, whole. -/
theorem onDemandTrigger_eq (s : State) :
    onDemandTrigger s = ⟨nackFlag (s.env.ackAt 0),
      { s with
        hsState := .triggered, t0 := s.env.clockAt 0
        env := (s.env.dropAcks 1).dropClocks 1
        log := s.log ++ [writeEntry s 0 s.cfg.aCmd s.cfg.cmdOndemand, .clock (s.env.clockAt 0)] }⟩ := by
  unfold onDemandTrigger
  simp only [Run.write_eq, State.start, State.setHs, clockNow_eq, State.setT0]
  simp [writeEntry, raiseUnlessAcked_zero]

end Sys2Proof.Machine
end

