-- ==== Sys2Proof/Laws/OnDemand.lean ====
section
/-! SUPPORT. What the poll loop of spec/43_on_demand.md R171 can do, said once: it goes through rounds that do not end it, and then it is suspended, ends by the flag, or ends by the time. -/

namespace Sys2Proof.Machine

open Sys2Proof

/-- Poll `j` from here does not end the loop: no flag, and the clock sample after it is not past the deadline. -/
def roundGoesOn (s : State) (j : Nat) : Prop :=
  pollDone (s.env.replyAt j) = false ∧ pastDeadline (s.env.clockAt j) s.t0 = false

/-- The log entries of `k` rounds that do not end the loop. -/
def roundEntries (s : State) (k : Nat) : List LogEntry :=
  (List.range k).flatMap (fun j => [readEntry s s.cfg.aCmd 1 (s.env.replyAt j), .clock (s.env.clockAt j)])

/-- The polls of `k` rounds were all acknowledged. -/
def roundsAcked (s : State) (k : Nat) : Bool := (List.range k).all (fun j => replyAcked (s.env.replyAt j))

/-- The state after `k` rounds that do not end the loop. -/
def afterRounds (s : State) (k : Nat) : State :=
  { s with log := s.log ++ roundEntries s k, env := (s.env.dropReplies k).dropClocks k }

@[simp] theorem afterRounds_zero (s : State) : afterRounds s 0 = s := by
  simp [afterRounds, roundEntries]

theorem afterRounds_afterRound (s : State) (k : Nat) : afterRounds (afterRound s) k = afterRounds s (k + 1) := by
  rw [afterRound_eq]
  simp [afterRounds, roundEntries, List.range_succ_eq_map, List.flatMap_map, readEntry, Nat.add_comm 1]

theorem roundsAcked_afterRound (s : State) (k : Nat) :
    (replyAcked (s.env.replyAt 0) && roundsAcked (afterRound s) k) = roundsAcked s (k + 1) := by
  rw [afterRound_eq]
  simp [roundsAcked, List.range_succ_eq_map, List.all_map, Function.comp_def, Nat.add_comm 1]

theorem roundGoesOn_afterRound (s : State) (j : Nat) : roundGoesOn (afterRound s) j ↔ roundGoesOn s (j + 1) := by
  rw [afterRound_eq]
  simp [roundGoesOn, Nat.add_comm 1]

theorem or_nackFlag_nackFlag (f : Flags) (a b : Bool) : f ||| nackFlag a ||| nackFlag b = f ||| nackFlag (a && b) := by
  rw [BitVec.or_assoc]
  congr 1
  cases a <;> cases b <;> rfl

/-- Rounds that do not end the loop only append their entries, draw their inputs, and raise BUS_ERR for a poll that is not
acknowledged. -/
theorem pollLoop_goes_on (k n : Nat) (h : Byte) (s : State) (f : Flags) (go : ∀ j < k, roundGoesOn s j) :
    pollLoop (k + n) h ⟨f, s⟩ = pollLoop n h ⟨f ||| nackFlag (roundsAcked s k), afterRounds s k⟩ := by
  induction k generalizing s f with
  | zero => simp [roundsAcked, nackFlag]
  | succ k ih =>
    have first := go 0 (by omega)
    rw [show k + 1 + n = (k + n) + 1 by omega, pollLoop_succ]
    simp only [first.1, first.2, Bool.false_eq_true, if_false]
    rw [ih _ _ (fun j hj => (roundGoesOn_afterRound s j).2 (go (j + 1) (by omega))), raiseUnlessAcked_eq_or,
      or_nackFlag_nackFlag, roundsAcked_afterRound, afterRounds_afterRound]

/-- Everything `k` rounds can come to: none of them ends the loop, and the command is suspended; or round `j` is the first
to end it, by the flag; or by the time. -/
theorem pollLoop_cases (k : Nat) (h : Byte) (f : Flags) (s : State) :
    ((∀ j < k, roundGoesOn s j) ∧
      pollLoop k h ⟨f, s⟩ = (afterRounds s k).suspend ⟨h, f ||| nackFlag (roundsAcked s k)⟩) ∨
    (∃ j < k, (∀ i < j, roundGoesOn s i) ∧ pollDone (s.env.replyAt j) = true ∧
      pollLoop k h ⟨f, s⟩ =
        Run.finalRead ⟨f ||| nackFlag (roundsAcked s j), (afterPoll (afterRounds s j)).setHs .ready⟩ h) ∨
    (∃ j < k, (∀ i < j, roundGoesOn s i) ∧ pollDone (s.env.replyAt j) = false ∧
      pastDeadline (s.env.clockAt j) s.t0 = true ∧
      pollLoop k h ⟨f, s⟩ =
        Run.finalRead ⟨f ||| nackFlag (roundsAcked s (j + 1)) ||| timeoutErr,
          (afterRounds s (j + 1)).setHs .timedOut⟩ h) := by
  induction k generalizing s f with
  | zero => exact .inl ⟨fun j hj => absurd hj (by omega), by simp [pollLoop_zero, roundsAcked, nackFlag]⟩
  | succ k ih =>
    rw [pollLoop_succ]
    by_cases done : pollDone (s.env.replyAt 0) = true
    · refine .inr (.inl ⟨0, by omega, fun i hi => absurd hi (by omega), done, ?_⟩)
      simp [done, roundsAcked, nackFlag]
    · have notDone : pollDone (s.env.replyAt 0) = false := by simpa using done
      by_cases past : pastDeadline (s.env.clockAt 0) s.t0 = true
      · refine .inr (.inr ⟨0, by omega, fun i hi => absurd hi (by omega), notDone, past, ?_⟩)
        simp only [notDone, past, if_true, Bool.false_eq_true, if_false]
        rw [raiseUnlessAcked_eq_or, ← afterRounds_afterRound, ← roundsAcked_afterRound]
        simp [raiseFlag, roundsAcked]
      · have notPast : pastDeadline (s.env.clockAt 0) s.t0 = false := by simpa using past
        simp only [notDone, notPast, Bool.false_eq_true, if_false]
        have goes : ∀ {m : Nat}, (∀ j < m, roundGoesOn (afterRound s) j) → ∀ j < m + 1, roundGoesOn s j := by
          intro m hm j hj
          rcases j with _ | j
          · exact ⟨notDone, notPast⟩
          · exact (roundGoesOn_afterRound s j).1 (hm j (by omega))
        rcases ih (raiseUnlessAcked (replyAcked (s.env.replyAt 0)) f) (afterRound s) with
          ⟨go, eq⟩ | ⟨j, hj, go, d, eq⟩ | ⟨j, hj, go, d, p, eq⟩
        · refine .inl ⟨goes go, ?_⟩
          rw [eq, raiseUnlessAcked_eq_or, or_nackFlag_nackFlag, roundsAcked_afterRound, afterRounds_afterRound]
        · refine .inr (.inl ⟨j + 1, by omega, goes go, ?_, ?_⟩)
          · rw [afterRound_eq] at d
            simpa [Nat.add_comm 1] using d
          · rw [eq, raiseUnlessAcked_eq_or, or_nackFlag_nackFlag, roundsAcked_afterRound, afterRounds_afterRound]
        · refine .inr (.inr ⟨j + 1, by omega, goes go, ?_, ?_, ?_⟩)
          · rw [afterRound_eq] at d
            simpa [Nat.add_comm 1] using d
          · rw [afterRound_eq] at p
            simpa [Nat.add_comm 1] using p
          · rw [eq, raiseUnlessAcked_eq_or, or_nackFlag_nackFlag, roundsAcked_afterRound, afterRounds_afterRound]

end Sys2Proof.Machine
end

