-- ==== Sys2Proof/Laws/PerInstr.lean ====
section
/-! SUPPORT. The family of statements made per command: the word of a command matches the row it stands for, bit for bit (spec/30_encoding.md R83, R84, R89). -/

namespace Sys2Proof

/-- Every word that carries a command's opcode and operands, with the operand bits its row does not use clear, passes
R84's test for that row. -/
theorem assembleWord_matches (o : Byte) (u : OperandUse) (a b : Half) (h : unusedBitsClear u a b = true) :
    assembleWord o a b &&& maskOf u = o.setWidth 64 :=
  (and_maskOf_eq_iff_fields _ _ _).2 ⟨by simp, by simp, by simp, by simpa using h⟩

/-- A one-bit operand leaves the bits 15:1 of `A` clear (R82). -/
theorem periodFlag_clears_upper_bits (p : BitVec 1) : (p.setWidth 16).extractLsb' 1 15 = 0#15 := by
  ext i hi
  simp

/-- The word of a command passes the test of its own row (R84). -/
def Laws.EncodingMatchesRow.Statement (i : Instr) : Prop :=
  encode i &&& maskOf (useOf i) = (opcodeOf i).setWidth 64

theorem Laws.EncodingMatchesRow.beginInit : Laws.EncodingMatchesRow.Statement .beginInit :=
  assembleWord_matches _ _ _ _ (by decide)

theorem Laws.EncodingMatchesRow.setProxRate (a : Half) : Laws.EncodingMatchesRow.Statement (.setProxRate a) :=
  assembleWord_matches _ _ _ _ rfl

theorem Laws.EncodingMatchesRow.setIntPersist (a : Half) : Laws.EncodingMatchesRow.Statement (.setIntPersist a) :=
  assembleWord_matches _ _ _ _ rfl

theorem Laws.EncodingMatchesRow.proxOffsetEn : Laws.EncodingMatchesRow.Statement .proxOffsetEn :=
  assembleWord_matches _ _ _ _ (by decide)

theorem Laws.EncodingMatchesRow.proxOffsetDis : Laws.EncodingMatchesRow.Statement .proxOffsetDis :=
  assembleWord_matches _ _ _ _ (by decide)

theorem Laws.EncodingMatchesRow.proxIntEn (a b : Half) : Laws.EncodingMatchesRow.Statement (.proxIntEn a b) :=
  assembleWord_matches _ _ _ _ rfl

theorem Laws.EncodingMatchesRow.proxIntDis : Laws.EncodingMatchesRow.Statement .proxIntDis :=
  assembleWord_matches _ _ _ _ (by decide)

theorem Laws.EncodingMatchesRow.alsIntEn (a b : Half) : Laws.EncodingMatchesRow.Statement (.alsIntEn a b) :=
  assembleWord_matches _ _ _ _ rfl

theorem Laws.EncodingMatchesRow.alsIntDis : Laws.EncodingMatchesRow.Statement .alsIntDis :=
  assembleWord_matches _ _ _ _ (by decide)

theorem Laws.EncodingMatchesRow.colorCompEn (p : BitVec 1) : Laws.EncodingMatchesRow.Statement (.colorCompEn p) :=
  assembleWord_matches _ _ _ _ (by simp [unusedBitsClear, useOf, fieldA, fieldB, periodFlag_clears_upper_bits])

theorem Laws.EncodingMatchesRow.setAdcGain (a : Half) : Laws.EncodingMatchesRow.Statement (.setAdcGain a) :=
  assembleWord_matches _ _ _ _ rfl

theorem Laws.EncodingMatchesRow.setAlsRate (a : Half) : Laws.EncodingMatchesRow.Statement (.setAlsRate a) :=
  assembleWord_matches _ _ _ _ rfl

theorem Laws.EncodingMatchesRow.update : Laws.EncodingMatchesRow.Statement .update :=
  assembleWord_matches _ _ _ _ (by decide)

theorem Laws.EncodingMatchesRow.getProxRaw : Laws.EncodingMatchesRow.Statement .getProxRaw :=
  assembleWord_matches _ _ _ _ (by decide)

theorem Laws.EncodingMatchesRow.getAlsRaw : Laws.EncodingMatchesRow.Statement .getAlsRaw :=
  assembleWord_matches _ _ _ _ (by decide)

theorem Laws.EncodingMatchesRow.getBlue1Raw : Laws.EncodingMatchesRow.Statement .getBlue1Raw :=
  assembleWord_matches _ _ _ _ (by decide)

theorem Laws.EncodingMatchesRow.getBlue2Raw : Laws.EncodingMatchesRow.Statement .getBlue2Raw :=
  assembleWord_matches _ _ _ _ (by decide)

theorem Laws.EncodingMatchesRow.ondemandProx : Laws.EncodingMatchesRow.Statement .ondemandProx :=
  assembleWord_matches _ _ _ _ (by decide)

theorem Laws.EncodingMatchesRow.ondemandAls : Laws.EncodingMatchesRow.Statement .ondemandAls :=
  assembleWord_matches _ _ _ _ (by decide)

theorem Laws.EncodingMatchesRow.getGainFactor : Laws.EncodingMatchesRow.Statement .getGainFactor :=
  assembleWord_matches _ _ _ _ (by decide)

theorem Laws.EncodingMatchesRow.readShProx : Laws.EncodingMatchesRow.Statement .readShProx :=
  assembleWord_matches _ _ _ _ (by decide)

theorem Laws.EncodingMatchesRow.readShIred : Laws.EncodingMatchesRow.Statement .readShIred :=
  assembleWord_matches _ _ _ _ (by decide)

theorem Laws.EncodingMatchesRow.readShAls : Laws.EncodingMatchesRow.Statement .readShAls :=
  assembleWord_matches _ _ _ _ (by decide)

theorem Laws.EncodingMatchesRow.readShInt : Laws.EncodingMatchesRow.Statement .readShInt :=
  assembleWord_matches _ _ _ _ (by decide)

theorem Laws.EncodingMatchesRow.getStatus : Laws.EncodingMatchesRow.Statement .getStatus :=
  assembleWord_matches _ _ _ _ (by decide)

end Sys2Proof
end

