-- ==== Sys2Proof/Laws/Step.lean ====
section
/-! SUPPORT. What a step can do, said once (spec/30_encoding.md R87, spec/70_reset_and_hazards.md R230, R232): nothing, a power-on reset of an idle block, or work on one command, which a power-on reset may meet. -/

namespace Sys2Proof.Machine

open Sys2Proof

/-! ## The inputs that a power-on reset leaves -/

@[simp] theorem Env.dropEntries_nil (e : Env) : e.dropEntries [] = e := rfl

@[simp] theorem Env.dropEntries_cons (e : Env) (x : LogEntry) (new : List LogEntry) :
    e.dropEntries (x :: new) = (e.dropEntry x).dropEntries new := rfl

/-- Transactions and samples use up one input each, of their kind. -/
theorem Env.dropEntries_eq (e : Env) (new : List LogEntry) :
    e.dropEntries new =
      ((e.dropAcks (new.filter LogEntry.isWrite).length).dropReplies (new.filter LogEntry.isRead).length).dropClocks
        (new.filterMap LogEntry.sample?).length := by
  induction new generalizing e with
  | nil => simp
  | cons x new ih =>
    rw [Env.dropEntries_cons, ih]
    cases x <;> simp [Env.dropEntry, LogEntry.isWrite, LogEntry.isRead, LogEntry.sample?, List.filter_cons,
      List.filterMap_cons, Nat.add_comm 1]

@[simp] theorem Env.events_dropEntries (e : Env) (new : List LogEntry) : (e.dropEntries new).events = e.events := by
  rw [Env.dropEntries_eq]
  simp

/-! ## A power-on reset -/

/-- A cut command: the reset state, with the inputs that the made transactions and samples have left (R232). -/
theorem State.cutAfter_eq (s t : State) (n : Nat) : s.cutAfter t n =
    { State.powerOn s.cfg with
      env := { s.env.dropEntries ((s.entriesSince t).take n) with events := s.env.events.tail } } := by
  simp [State.cutAfter, State.powerOnReset, State.setEnv, Env.dropEvent]

/-- What the command has put in the log, from the state it began in. -/
theorem State.entriesSince_eq {s t : State} {new : List LogEntry} (h : t.log = s.log ++ new) : s.entriesSince t = new := by
  simp [State.entriesSince, h]

/-- Everything a power-on reset that meets a command can come to: the command is cut; or it is still polling, and the reset
comes nearer; or it has responded. -/
theorem State.meetReset_cases (s t : State) (n : Nat) :
    (n ≤ (s.entriesSince t).length ∧ s.meetReset t n = s.cutAfter t n) ∨
    ((s.entriesSince t).length < n ∧ t.inFlight ≠ none ∧ s.meetReset t n =
      { t with env := { t.env with events := .reset (n - (s.entriesSince t).length) :: t.env.events.tail } }) ∨
    ((s.entriesSince t).length < n ∧ t.inFlight = none ∧ s.meetReset t n = t) := by
  unfold State.meetReset
  by_cases cut : n ≤ (s.entriesSince t).length
  · exact .inl ⟨cut, by simp [cut]⟩
  · cases flying : t.inFlight with
    | none => exact .inr (.inr ⟨by omega, rfl, by simp [cut]⟩)
    | some c => exact .inr (.inl ⟨by omega, by simp, by simp [cut, flying, State.setEnv]⟩)

/-- Without a power-on reset next, work is what it is. -/
theorem underReset_of_not (s : State) (o : Host.Outcome State Fault Refusal) (h : resetNext s.env.events = false) :
    underReset s o = o := by
  unfold underReset
  split
  · simp_all [resetNext]
  · rfl

/-- With a power-on reset next, work meets it. -/
theorem underReset_of_reset (s t : State) (n : Nat) (rest : List HostEvent) (h : s.env.events = .reset n :: rest) :
    underReset s (.next t) = .next (s.meetReset t n) := by
  simp [underReset, h]

/-! ## A step -/

/-- The accept stage of the machine is the one statements speak of. -/
theorem accept_eq_accepted (s : State) (w : CmdWord) (rest : List HostEvent) (h : s.env.events = .command w :: rest) :
    s.accept = accepted s rest := by
  simp [State.accept, accepted, Env.dropEvent, h]

/-- A step that works on a command is that work, met by the power-on reset if one is next. -/
theorem Works.step_eq {s v u : State} (h : Works s v u) : step s = underReset v (.next u) := by
  cases h with
  | accepts w rest i _ presents legal answers =>
    unfold step runCycle runAccepted
    simp only [presents.sound, if_true, presents.idle, presents.pending, presents.ready]
    rw [accept_eq_accepted s w rest presents.pending]
    simp only [legal]
    rw [answers]
  | rejects w rest e presents illegal =>
    unfold step runCycle runAccepted
    simp only [presents.sound, if_true, presents.idle, presents.pending, presents.ready]
    rw [accept_eq_accepted s w rest presents.pending]
    simp only [illegal, abortWith_eq_doneWith, illegalCmd]
  | resumes c sound flying =>
    unfold step runCycle
    simp only [sound, if_true, flying]

/-- Everything a step can do, with a sound configuration only: nothing; a power-on reset of an idle block; work on a
command that no power-on reset meets; or work that one meets. -/
theorem step_cases {s t : State} (h : step s = .next t) :
    s.cfg.wellFormed = true ∧
    (t = s ∨ (s.inFlight = none ∧ resetNext s.env.events = true ∧ t = s.powerOnReset) ∨
      ∃ v u, Works s v u ∧
        ((resetNext v.env.events = false ∧ t = u) ∨
          ∃ n rest, v.env.events = .reset n :: rest ∧ t = v.meetReset u n)) := by
  have sound : s.cfg.wellFormed = true := by
    by_contra unsound
    simp [step, unsound] at h
  refine ⟨sound, ?_⟩
  have worked : ∀ v u, Works s v u → t = s ∨ (s.inFlight = none ∧ resetNext s.env.events = true ∧ t = s.powerOnReset) ∨
      ∃ v u, Works s v u ∧ ((resetNext v.env.events = false ∧ t = u) ∨
        ∃ n rest, v.env.events = .reset n :: rest ∧ t = v.meetReset u n) := by
    intro v u works
    rw [works.step_eq] at h
    refine .inr (.inr ⟨v, u, works, ?_⟩)
    rcases events : v.env.events with _ | ⟨_ | n, rest⟩
    · rw [underReset_of_not v _ (by rw [events]; rfl)] at h
      exact .inl ⟨rfl, by simpa using h.symm⟩
    · rw [underReset_of_not v _ (by rw [events]; rfl)] at h
      exact .inl ⟨rfl, by simpa using h.symm⟩
    · rw [underReset_of_reset v u n rest events] at h
      exact .inr ⟨n, rest, rfl, by simpa using h.symm⟩
  rcases flying : s.inFlight with _ | c
  · rcases events : s.env.events with _ | ⟨w | n, rest⟩
    · simp only [step, sound, if_true, runCycle, flying, events] at h
      exact .inl (by simpa using h.symm)
    · by_cases ready : s.cmdReady = true
      · have presents : Presents s w rest := ⟨sound, events, ready, flying⟩
        cases decoded : decode w with
        | error e => simpa [flying, events] using worked _ _ (.rejects w rest e presents decoded)
        | ok i =>
          cases answers : exec i (accepted s rest) with
          | next u => simpa [flying, events] using worked _ _ (.accepts w rest i u presents decoded answers)
          | fault r => cases r
          | refused r =>
            simp only [step, sound, if_true, runCycle, flying, events, ready, runAccepted, decoded] at h
            rw [accept_eq_accepted s w rest events, answers] at h
            unfold underReset at h
            split at h <;> simp at h
      · simp only [step, sound, if_true, runCycle, flying, events, ready] at h
        exact .inl (by simpa using h.symm)
    · simp only [step, sound, if_true, runCycle, flying, events] at h
      exact .inr (.inl ⟨rfl, rfl, by simpa using h.symm⟩)
  · simpa [flying] using worked s _ (.resumes c sound flying)

end Sys2Proof.Machine
end

