-- ==== Sys2Proof/Tests/Slice0.lean ====
section
/-! SUPPORT. Tests on fixed values, each expected value from spec/ (the word tables of 30_encoding.md, the vectors of 95_test_vectors.md, the examples of the command rules), and a witness for every statement that has hypotheses. -/

namespace Sys2Proof.Tests

open Sys2Proof Sys2Proof.Machine

/-! ## Well-formedness: a term each check refuses (R7, R88) -/

theorem test_wf_ref : Config.ref.wellFormed = true := by decide
theorem test_wf_pint_not_two_bits : Cfg.wellFormed { Config.ref with pintMask := 0x01#8 } = false := by decide
theorem test_wf_pint_not_adjacent : Cfg.wellFormed { Config.ref with pintMask := 0x11#8 } = false := by decide
theorem test_wf_aint_not_two_bits : Cfg.wellFormed { Config.ref with aintMask := 0x1C#8 } = false := by decide
theorem test_wf_pint_in_persistence :
    Cfg.wellFormed { Config.ref with pintMask := 0x60#8 } = false := by decide
theorem test_wf_aint_in_persistence :
    Cfg.wellFormed { Config.ref with aintMask := 0x30#8 } = false := by decide
theorem test_wf_masks_overlap : Cfg.wellFormed { Config.ref with aintMask := 0x06#8 } = false := by decide
theorem test_wf_gain_codes_equal : Cfg.wellFormed { Config.ref with gainCode800 := 3#2 } = false := by decide
theorem test_wf_gain_code_200_not_zero :
    Cfg.wellFormed { Config.ref with gainCode200 := 1#2, gainCode800 := 0#2 } = false := by decide
theorem test_wf_window_wraps : Cfg.wellFormed { Config.ref with measBase := 0xF7#8 } = false := by decide
theorem test_wf_prox_rate_zero : Instr.wellFormed (.setProxRate 0#16) = false := by decide
theorem test_wf_persist_zero : Instr.wellFormed (.setIntPersist 0#16) = false := by decide
theorem test_wf_als_rate_zero : Instr.wellFormed (.setAlsRate 0#16) = false := by decide

/-! ## Decoding: a word of every row, written out from R81 and R83 -/

theorem test_decode_begin : decode 0x0000000000000001#64 = .ok .beginInit := by decide
theorem test_decode_set_prox_rate : decode 0x0000000000640010#64 = .ok (.setProxRate 100#16) := by decide
theorem test_decode_set_int_persist : decode 0x0000000000050011#64 = .ok (.setIntPersist 5#16) := by decide
theorem test_decode_prox_offset_en : decode 0x0000000000000012#64 = .ok .proxOffsetEn := by decide
theorem test_decode_prox_offset_dis : decode 0x0000000000000013#64 = .ok .proxOffsetDis := by decide
theorem test_decode_prox_int_en :
    decode 0x0000001012340014#64 = .ok (.proxIntEn 0x1234#16 0x0010#16) := by decide
theorem test_decode_prox_int_dis : decode 0x0000000000000015#64 = .ok .proxIntDis := by decide
theorem test_decode_als_int_en :
    decode 0x0000001012340016#64 = .ok (.alsIntEn 0x1234#16 0x0010#16) := by decide
theorem test_decode_als_int_dis : decode 0x0000000000000017#64 = .ok .alsIntDis := by decide
theorem test_decode_color_comp_en : decode 0x0000000000010018#64 = .ok (.colorCompEn 1#1) := by decide
theorem test_decode_set_adc_gain : decode 0x0000000003200019#64 = .ok (.setAdcGain 800#16) := by decide
theorem test_decode_set_als_rate : decode 0x000000000004001A#64 = .ok (.setAlsRate 4#16) := by decide
theorem test_decode_update : decode 0x0000000000000020#64 = .ok .update := by decide
theorem test_decode_get_prox_raw : decode 0x0000000000000021#64 = .ok .getProxRaw := by decide
theorem test_decode_get_als_raw : decode 0x0000000000000022#64 = .ok .getAlsRaw := by decide
theorem test_decode_get_blue1_raw : decode 0x0000000000000023#64 = .ok .getBlue1Raw := by decide
theorem test_decode_get_blue2_raw : decode 0x0000000000000024#64 = .ok .getBlue2Raw := by decide
theorem test_decode_ondemand_prox : decode 0x0000000000000028#64 = .ok .ondemandProx := by decide
theorem test_decode_ondemand_als : decode 0x0000000000000029#64 = .ok .ondemandAls := by decide
theorem test_decode_get_gain_factor : decode 0x0000000000000030#64 = .ok .getGainFactor := by decide
theorem test_decode_read_sh_prox : decode 0x0000000000000031#64 = .ok .readShProx := by decide
theorem test_decode_read_sh_ired : decode 0x0000000000000032#64 = .ok .readShIred := by decide
theorem test_decode_read_sh_als : decode 0x0000000000000033#64 = .ok .readShAls := by decide
theorem test_decode_read_sh_int : decode 0x0000000000000034#64 = .ok .readShInt := by decide
theorem test_decode_get_status : decode 0x0000000000000035#64 = .ok .getStatus := by decide

/-- The example of R89. -/
theorem test_encode_prox_int_en : encode (.proxIntEn 0x1234#16 0x0010#16) = 0x0000001012340014#64 := by decide

/-- The illegal words of family F1. -/
theorem test_decode_illegal :
    decode 0x0000000000000000#64 = .error .unassignedOpcode ∧ decode 0x00000000000000FF#64 = .error .unassignedOpcode ∧
    decode 0x0000000000000036#64 = .error .unassignedOpcode ∧ decode 0x0000000000000025#64 = .error .unassignedOpcode ∧
    decode 0x0000000000000101#64 = .error .reservedBitSet ∧ decode 0x0001000000000010#64 = .error .reservedBitSet ∧
    decode 0x0000000000010001#64 = .error .unusedOperandBitSet ∧
    decode 0x0000000100040010#64 = .error .unusedOperandBitSet ∧
    decode 0x0000000000030018#64 = .error .unusedOperandBitSet := by decide

theorem test_decode_table_word : decodeTableWord 64 0x0000001012340016 = some (.alsIntEn 0x1234#16 0x0010#16) := by
  decide

/-! ## One command each: the vectors of 95_test_vectors.md (REF configuration) -/

/-- The advances of the counter that give these clock samples, from the one before them. -/
def advancesTo : Millis → List Millis → List Nat
  | _, [] => []
  | t, u :: rest => (u - t).toNat :: advancesTo u rest

/-- The reset state with its coming acknowledgements, replies and clock samples. -/
def given (acks : List Bool) (replies : List ReadReply) (clocks : List Millis) : State :=
  { State.reset with env := { Env.empty with acks := acks, replies := replies, advances := advancesTo 0#32 clocks } }

/-- A reply whose first bytes are these. -/
def bytes2 (a b : Byte) : ReadReply := .data #v[a, b, 0x00#8, 0x00#8, 0x00#8, 0x00#8, 0x00#8, 0x00#8, 0x00#8, 0x00#8]

/-- The state a command leaves. -/
def after (i : Instr) (s : State) : Option State :=
  match exec i s with
  | .next t => some t
  | .fault _ => none
  | .refused _ => none

/-- A write in the log, addressed to the REF device. -/
def w (a v : Byte) (ack : Bool) : LogEntry := .write 0x2A#7 a v ack

/-- A read in the log, addressed to the REF device. -/
def r (a : Byte) (n : Nat) (ack : Bool) (d : List Byte) : LogEntry := .read 0x2A#7 a n ack d

/-- F12, last row: the second write is not acknowledged. -/
theorem test_begin_nack :
    (after .beginInit (given [true, false, true, true, true] [] [])).map (fun t => (t.log, t.rspFlags)) =
      some ([w 0x01#8 0x00#8 true, w 0x02#8 0x00#8 false, w 0x03#8 0x00#8 true, w 0x04#8 0x00#8 true,
        w 0x00#8 0x01#8 true], 0b0001#4) := by decide

/-- F12, second row: what BEGIN leaves. -/
theorem test_begin_leaves :
    (after .beginInit { given [true, true, true, true, true] [] [] with
      shProx := 0x0C#8, shAls := 0x0B#8, gfSel := .fa800, shInt := 0x43#8, ccMode := true }).map
      (fun t => (t.shProx, t.shAls, t.gfSel, t.shInt, t.ccMode)) =
      some (0x00#8, 0x00#8, .fa200, 0x43#8, true) := by decide

/-- F2: 100 gives 6. -/
theorem test_set_prox_rate_100 :
    (after (.setProxRate 100#16) (given [true] [] [])).map (fun t => (t.shProx, t.log, t.rspFlags)) =
      some (0x06#8, [w 0x01#8 0x06#8 true], 0b0000#4) := by decide

/-- F2: from 0x04, 256 gives 0x08. -/
theorem test_set_prox_rate_256 :
    (after (.setProxRate 256#16) { given [false] [] [] with shProx := 0x04#8 }).map (fun t => (t.shProx, t.rspFlags)) =
      some (0x08#8, 0b0001#4) := by decide

/-- F3: from 0x0F, 4 gives 0x4F. -/
theorem test_set_int_persist_4 :
    (after (.setIntPersist 4#16) { given [true] [] [] with shInt := 0x0F#8 }).map (fun t => (t.shInt, t.log)) =
      some (0x4F#8, [w 0x05#8 0x4F#8 true]) := by decide

/-- F3: 65535 gives 0xE0. -/
theorem test_set_int_persist_max :
    (after (.setIntPersist 65535#16) (given [true] [] [])).map State.shInt = some 0xE0#8 := by decide

/-- F4: from 0x04, enable gives 0x0C. -/
theorem test_prox_offset_en :
    (after .proxOffsetEn { given [true] [] [] with shProx := 0x04#8 }).map (fun t => (t.shProx, t.log)) =
      some (0x0C#8, [w 0x01#8 0x0C#8 true]) := by decide

/-- F4: from 0x0C, disable gives 0x04. -/
theorem test_prox_offset_dis :
    (after .proxOffsetDis { given [true] [] [] with shProx := 0x0C#8 }).map State.shProx = some 0x04#8 := by decide

/-- F5: PROX_INT_EN 5, 6 with the second write not acknowledged. -/
theorem test_prox_int_en_nack :
    (after (.proxIntEn 5#16 6#16) (given [true, false, true, true, true] [] [])).map
      (fun t => (t.shInt, t.log, t.rspFlags)) =
      some (0x03#8, [w 0x05#8 0x03#8 true, w 0x20#8 0x00#8 false, w 0x21#8 0x05#8 true, w 0x22#8 0x00#8 true,
        w 0x23#8 0x06#8 true], 0b0001#4) := by decide

/-- F5: PROX_INT_DIS from 0x4F. -/
theorem test_prox_int_dis :
    (after .proxIntDis { given [true] [] [] with shInt := 0x4F#8 }).map State.shInt = some 0x4C#8 := by decide

/-- S7 under FIXED. -/
theorem test_als_int_en_fixed :
    (after (.alsIntEn 0x1234#16 0x0010#16) { given [true, true, true, true, true] [] [] with
      cfg := { Config.ref with thHiPolicy := .fixed } }).map State.log =
      some [w 0x05#8 0x0C#8 true, w 0x24#8 0x12#8 true, w 0x25#8 0x34#8 true, w 0x26#8 0x00#8 true,
        w 0x27#8 0x10#8 true] := by decide

/-- F5: ALS_INT_DIS from 0x4F under LEGACY. -/
theorem test_als_int_dis_legacy :
    (after .alsIntDis { given [true] [] [] with shInt := 0x43#8 }).map State.shInt = some 0x4F#8 := by decide

/-- F5: ALS_INT_DIS from 0x4F under FIXED. -/
theorem test_als_int_dis_fixed :
    (after .alsIntDis { given [true] [] [] with
      shInt := 0x4F#8, cfg := { Config.ref with aintDisPolicy := .fixed } }).map State.shInt = some 0x43#8 := by decide

/-- F6: P = 1, not acknowledged. -/
theorem test_color_comp_en_nack :
    (after (.colorCompEn 1#1) (given [false] [] [])).map (fun t => (t.ccMode, t.log, t.rspFlags)) =
      some (true, [w 0x04#8 0x03#8 false], 0b0001#4) := by decide

/-- R124's example: from 0x03, 800 gives 0x0B. -/
theorem test_set_adc_gain_800 :
    (after (.setAdcGain 800#16) { given [true] [] [] with shAls := 0x03#8 }).map (fun t => (t.gfSel, t.shAls)) =
      some (.fa800, 0x0B#8) := by decide

/-- F7: from 0x1F with entry 3, 200 gives 0x07 and entry 0. -/
theorem test_set_adc_gain_200 :
    (after (.setAdcGain 200#16) { given [true] [] [] with shAls := 0x1F#8, gfSel := .fa25600 }).map
      (fun t => (t.gfSel, t.shAls)) = some (.fa200, 0x07#8) := by decide

/-- F9: from 0x18, 8 gives 0x1F. -/
theorem test_set_als_rate_8 :
    (after (.setAlsRate 8#16) { given [true] [] [] with shAls := 0x18#8 }).map State.shAls = some 0x1F#8 := by decide

/-- F10, first row. -/
theorem test_update_4 :
    (after .update (given [] [.data #v[0x12#8, 0x34#8, 0x56#8, 0x78#8, 0#8, 0#8, 0#8, 0#8, 0#8, 0#8]] [])).map
      (fun t => (t.cProx, t.cAls, t.cBlue1, t.log)) =
      some (0x1234#16, 0x5678#16, 0x0000#16, [r 0x10#8 4 true [0x12#8, 0x34#8, 0x56#8, 0x78#8]]) := by decide

/-- F10, fourth row. -/
theorem test_update_10 :
    (after .update { given [] [.data #v[0x01#8, 0x02#8, 0xA0#8, 0x0F#8, 0xEE#8, 0xEE#8, 0x00#8, 0xFF#8, 0x80#8,
      0x00#8]] [] with ccMode := true }).map (fun t => (t.cProx, t.cAls, t.cBlue1, t.cBlue2)) =
      some (0x0102#16, 0xA00F#16, 0x00FF#16, 0x8000#16) := by decide

/-- F8, K = 3 (S8): four reads and one write. -/
theorem test_ondemand_prox_ready :
    (after .ondemandProx (given [true] [bytes2 0x00#8 0x00#8, bytes2 0x00#8 0x00#8, bytes2 0x40#8 0x00#8,
      bytes2 0x03#8 0xE8#8] [100#32, 101#32, 102#32])).map (fun t => (t.log, t.rspFlags, t.rspData, t.hsState)) =
      some ([w 0x00#8 0x02#8 true, .clock 100#32, r 0x00#8 1 true [0x00#8], .clock 101#32, r 0x00#8 1 true [0x00#8],
        .clock 102#32, r 0x00#8 1 true [0x40#8], r 0x10#8 2 true [0x03#8, 0xE8#8]], 0b0000#4, 0x03E8#16, .ready) := by
  decide

/-- F8, clock wrap with T0 = 0xFFFFFE00: elapsed 511, 1000 and 1001. -/
theorem test_ondemand_prox_clock_wrap :
    (after .ondemandProx (given [true] [bytes2 0x00#8 0x00#8, bytes2 0x00#8 0x00#8, bytes2 0x00#8 0x00#8,
      bytes2 0x01#8 0x02#8] [0xFFFFFE00#32, 0xFFFFFFFF#32, 0x000001E8#32, 0x000001E9#32])).map
      (fun t => (t.rspFlags, t.rspData, t.hsState)) = some (0b0010#4, 0x0102#16, .timedOut) := by decide

/-- F8, NACKed poll and then timeout: both flags (here as ONDEMAND_ALS). -/
theorem test_ondemand_als_nack_and_timeout :
    (after .ondemandAls (given [true] [.nack, bytes2 0x00#8 0x09#8] [0#32, 2000#32])).map
      (fun t => (t.log.getLast?, t.rspFlags, t.rspData, t.hsState, t.cmdReady)) =
      some (some (r 0x12#8 2 true [0x00#8, 0x09#8]), 0b0011#4, 0x0009#16, .timedOut, true) := by decide

/-- F8, NACKed final read, start RESULT = 0x7777. -/
theorem test_ondemand_als_nacked_final :
    (after .ondemandAls { given [true] [bytes2 0x40#8 0x00#8, .nack] [50#32] with result := 0x7777#16 }).map
      (fun t => (t.rspFlags, t.rspData, t.hsState)) = some (0b0001#4, 0x7777#16, .ready) := by decide

/-- R173's example up to its second poll: the command still holds the block (R175). -/
theorem test_ondemand_als_in_flight :
    (after .ondemandAls (given [true] [bytes2 0x00#8 0x00#8, bytes2 0x00#8 0x00#8] [5000#32, 5400#32, 5999#32])).map
      (fun t => (t.cmdReady, t.rspValid, t.hsState, t.inFlight)) =
      some (false, false, .triggered, some ⟨0x12#8, 0b0000#4⟩) := by decide

/-- F11: the getters and accessors on a state with every register different. -/
def busy : State :=
  { State.reset with
    shProx := 0x0C#8, shAls := 0x0B#8, shInt := 0x40#8, gfSel := .fa800, ccMode := true, cProx := 0x0102#16
    cAls := 0xA00F#16, cBlue1 := 0x00FF#16, cBlue2 := 0x8000#16, hsState := .timedOut, sticky := 0b0010#4 }

theorem test_getters :
    [Instr.getProxRaw, .getAlsRaw, .getBlue1Raw, .getBlue2Raw].map (fun i => (after i busy).map State.rspData) =
      [some 0x0102#16, some 0xA00F#16, some 0x00FF#16, some 0x8000#16] := by decide

theorem test_accessors :
    [Instr.getGainFactor, .readShProx, .readShIred, .readShAls, .readShInt].map
      (fun i => (after i busy).map State.rspData) =
      [some 0x08A9#16, some 0x000C#16, some 0x0000#16, some 0x000B#16, some 0x0040#16] := by decide

/-- R195's example and F11: HS_STATE = 3 and S_TIMEOUT give 0x0182; GF_SEL = 1 and CC_MODE add 0x20 and 0x10. -/
theorem test_get_status : (after .getStatus busy).map State.rspData = some 0x01B2#16 := by decide

/-- P5, row 2 and row 3: what an illegal word and a zero operand answer. -/
theorem test_step_illegal_word :
    (match step (State.reset.withFetchWord 64 0) with
      | .next t => some (t.rspFlags, t.sticky, t.log)
      | .fault _ => none
      | .refused _ => none) = some (0b0100#4, 0b0100#4, []) := by decide

theorem test_set_prox_rate_zero :
    (after (.setProxRate 0#16) (given [] [] [])).map (fun t => (t.rspFlags, t.sticky, t.shProx, t.log)) =
      some (0b1000#4, 0b1000#4, 0x00#8, []) := by decide

/-! ## Witnesses: for every statement that has hypotheses, a state and operands that meet all of them -/

/-- A state to which the host presents a word. -/
def presenting (x : CmdWord) : State := { State.reset with env := { Env.empty with events := [.command x] } }

/-- A state with a command in flight, and one reply and one clock sample to come. -/
def polling (x : ReadReply) (t : Millis) : State :=
  { State.reset with
    hsState := .triggered, cmdReady := false, inFlight := some ⟨0x12#8, 0b0001#4⟩
    env := { Env.empty with replies := [x], advances := [t.toNat] } }

/-- A command that answers with a state, for the statements whose hypothesis is that it does. -/
theorem witness_exec_answers (i : Instr) (s t : State) (h : after i s = some t) : exec i s = .next t := by
  unfold after at h
  split at h <;> simp_all

/-- R84: EncodeOfDecodeIsTheWord. -/
theorem witness_decode_ok : decode 0x0000000000640010#64 = .ok (.setProxRate 100#16) := by decide

/-- R84: both clauses of RowDecodes, for a row with every operand use. -/
theorem witness_row_decodes :
    (0x0000000000000001#64 &&& 0xFFFFFFFFFFFFFFFF#64 = 0x01#64 ∧
      0x0000000000000101#64 &&& 0xFF#64 = 0x01#64 ∧ 0x0000000000000101#64 &&& 0xFFFFFFFFFFFFFFFF#64 ≠ 0x01#64) ∧
    (0x00000000FFFF0010#64 &&& 0xFFFFFFFF0000FFFF#64 = 0x10#64 ∧
      0x0000000100000010#64 &&& 0xFF#64 = 0x10#64 ∧ 0x0000000100000010#64 &&& 0xFFFFFFFF0000FFFF#64 ≠ 0x10#64) ∧
    (0x0000FFFFFFFF0014#64 &&& 0xFFFF00000000FFFF#64 = 0x14#64 ∧
      0x0001000000000014#64 &&& 0xFF#64 = 0x14#64 ∧ 0x0001000000000014#64 &&& 0xFFFF00000000FFFF#64 ≠ 0x14#64) ∧
    (0x0000000000010018#64 &&& 0xFFFFFFFFFFFEFFFF#64 = 0x18#64 ∧
      0x0000000000020018#64 &&& 0xFF#64 = 0x18#64 ∧ 0x0000000000020018#64 &&& 0xFFFFFFFFFFFEFFFF#64 ≠ 0x18#64) := by
  decide

/-- R84: two rows that match one word are one row. -/
theorem witness_rows_match :
    (0x20#64, 0xFFFFFFFFFFFFFFFF#64) ∈ opcodeTable ∧ 0x20#64 &&& 0xFFFFFFFFFFFFFFFF#64 = 0x20#64 := by decide

/-- R87: StepRunsTheDecodedCommand. -/
theorem witness_presents :
    Presents (presenting 0x20#64) 0x20#64 [] ∧ decode 0x20#64 = .ok .update ∧ resetNext [] = false :=
  ⟨⟨by decide, rfl, rfl, rfl⟩, by decide, rfl⟩

/-- R85: IllegalWordIsAnsweredOnly, with the first opcode above the table. -/
theorem witness_presents_illegal :
    Presents (presenting 0x36#64) 0x36#64 [] ∧ (∀ q ∈ opcodeTable, 0x36#64 &&& q.2 ≠ q.1) ∧
      ([] : List HostEvent).head? ≠ some (.reset 0) :=
  ⟨⟨by decide, rfl, rfl, rfl⟩, by simp [opcodeTable], by decide⟩

/-- PlacedWordRunsNext and ConfigurationRefusedExactlyByConstraints: a sound configuration, and one that is not. -/
theorem witness_configurations :
    State.reset.cfg.wellFormed = true ∧ resetNext State.reset.env.events = false ∧
      Cfg.wellFormed { Config.ref with measBase := 0xF7#8 } = false := by decide

/-- R88: OperandChecksAreTheOnlyOnes, a command outside the list, which completes. -/
theorem witness_operand_check :
    Instr.setProxRate 1#16 ∉ [Instr.setProxRate 0#16, Instr.setIntPersist 0#16, Instr.setAlsRate 0#16] ∧
    (after (.setProxRate 1#16) (given [true] [] [])).map State.inFlight = some none := by decide

/-- R34: NothingHappensWithoutAcceptance, both cases. -/
theorem witness_nothing_happens :
    (State.reset.cfg.wellFormed = true ∧ State.reset.inFlight = none ∧ State.reset.env.events = []) ∧
    ∃ s : State, s.cfg.wellFormed = true ∧ s.inFlight = none ∧
      ∃ x rest, s.env.events = .command x :: rest ∧ s.cmdReady = false :=
  ⟨by decide, { presenting 0x20#64 with cmdReady := false }, by decide, rfl, 0x20#64, [], rfl, rfl⟩

/-- R232: PowerOnResetIdleOrBeforeTheNextTransaction, while a command is in flight, and in an idle block. -/
theorem witness_power_on_reset :
    (∃ s : State, s.cfg.wellFormed = true ∧ s.env.events = .reset 0 :: [] ∧ s.inFlight ≠ none) ∧
    (∃ s : State, s.cfg.wellFormed = true ∧ s.env.events = .reset 7 :: [] ∧ s.inFlight = none) :=
  ⟨⟨{ polling .nack 0#32 with env := { Env.empty with events := [.reset 0] } }, by decide, rfl, by decide⟩,
    ⟨{ State.reset with env := { Env.empty with events := [.reset 7] } }, by decide, rfl, rfl⟩⟩

/-- A BEGIN and a power-on reset after its first `n` transactions, in a block with something in its registers. -/
def resetInBegin (n : Nat) : State :=
  { State.reset with
    shProx := 0x0C#8, sticky := 0b0010#4
    env := { Env.empty with events := [.command 0x01#64, .reset n], acks := [true, false, true, true, true, true] } }

/-- R232: after two of the five writes the block is in its reset state, silent, and two acknowledgements are used up. -/
theorem test_reset_cuts_begin :
    (match step (resetInBegin 2) with
      | .next t => some (t.shProx, t.sticky, t.rspValid, t.log, t.env.acks)
      | .fault _ => none
      | .refused _ => none) = some (0x00#8, 0b0000#4, false, [], [true, true, true, true]) := by decide

/-- R232, R87: a reset that waits for more than BEGIN does finds it answered. -/
theorem test_reset_after_begin :
    (match step (resetInBegin 6) with
      | .next t => some (t.sticky, t.rspValid, t.log.length, t.env.events)
      | .fault _ => none
      | .refused _ => none) = some (0b0011#4, true, 5, [.reset 6]) := by decide

/-- R232: ResetMeetsTheCommandAtWork and ClockNeverRunsBack: a word accepted with a reset behind it. -/
theorem witness_reset_in_command :
    ∃ v u : State, Works (resetInBegin 5) v u ∧ v.env.events = .reset 5 :: [] ∧ (v.entriesSince u).length = 5 :=
  ⟨_, _, .accepts 0x01#64 [.reset 5] .beginInit _ ⟨by decide, rfl, rfl, rfl⟩ (by decide) rfl, rfl, by decide⟩

/-- R232: the same for an illegal word, and for a command in flight that polls once more and that the reset then nears. -/
theorem witness_reset_elsewhere :
    (∃ v u : State, Works { presenting 0x36#64 with env := { Env.empty with events := [.command 0x36#64, .reset 0] } } v u ∧
      v.env.events = .reset 0 :: []) ∧
    (∃ s u : State, Works s s u ∧ s.env.events = .reset 3 :: [] ∧ (s.entriesSince u).length = 2 ∧ u.inFlight.isSome) := by
  constructor
  · exact ⟨_, _, .rejects 0x36#64 [.reset 0] .unassignedOpcode ⟨by decide, rfl, rfl, rfl⟩ (by decide), rfl⟩
  · exact ⟨{ polling (bytes2 0x00#8 0x00#8) 1000#32 with
        env := { (polling (bytes2 0x00#8 0x00#8) 1000#32).env with events := [.reset 3] } }, _,
      .resumes ⟨0x12#8, 0b0001#4⟩ (by decide) rfl, rfl, by decide, by decide⟩

/-- R111, R113, R126: the operand clauses at their boundaries. -/
theorem witness_rate_boundaries :
    (1#16 ≠ 0#16 ∧ (1#16).toNat < 256) ∧ (255#16 ≠ 0#16 ∧ (255#16).toNat < 256) ∧
    (256#16 ≠ 0#16 ∧ ¬ (256#16).toNat < 256) ∧ (127#16 ≠ 0#16 ∧ (127#16).toNat < 128) ∧
    (128#16 ≠ 0#16 ∧ ¬ (128#16).toNat < 128) ∧ (7#16 ≠ 0#16 ∧ (7#16).toNat < 8) ∧
    (8#16 ≠ 0#16 ∧ ¬ (8#16).toNat < 8) ∧ (65535#16 ≠ 0#16 ∧ ¬ (65535#16).toNat < 256) := by decide

/-- R116: ProxOffsetEnableIsIdempotentAndUndone, from bit 3 = 0. -/
theorem witness_offset_sequence :
    ∃ s t u v : State, exec .proxOffsetEn s = .next t ∧ exec .proxOffsetEn t = .next u ∧
      exec .proxOffsetDis u = .next v ∧ s.shProx.getLsbD 3 = false :=
  ⟨State.reset, _, _, _, rfl, rfl, rfl, by decide⟩

/-- R117, R121: both values of each policy. -/
theorem witness_policies :
    State.reset.cfg.thHiPolicy = .legacy ∧ State.reset.cfg.aintDisPolicy = .legacy ∧
    (Cfg.thHiPolicy { Config.ref with thHiPolicy := .fixed, aintDisPolicy := .fixed }) = .fixed ∧
    (Cfg.aintDisPolicy { Config.ref with thHiPolicy := .fixed, aintDisPolicy := .fixed }) = .fixed := by decide

/-- R152: UpdateDecodesOneBurst, a reply of each kind, in each mode. -/
theorem witness_update_replies :
    (given [] [.nack] []).env.replyAt 0 = .nack ∧ (given [] [.nack] []).ccMode = false ∧
    (given [] [bytes2 0x12#8 0x34#8] []).env.replyAt 0 = bytes2 0x12#8 0x34#8 ∧
    State.ccMode { given [] [bytes2 0x12#8 0x34#8] [] with ccMode := true } = true := by decide

/-- R157: OnlyUpdateChangesTheCache; also the hypothesis of StateChangesOnlyByItsWriters, CommandsAppendAndDraw,
StickyAccumulatesAndIsNeverCleared and ColourCompensationIsPermanent (a command that answers). -/
theorem witness_command_answers :
    ∃ t, exec .getProxRaw State.reset = .next t ∧ Instr.getProxRaw ≠ .update ∧ opcodeOf .getProxRaw ∉ [0x01#8] :=
  ⟨_, rfl, by decide, by decide⟩

/-- R29: OnlyUpdateChangesTheCache, the step: one that accepts another word. -/
theorem witness_step_without_update :
    ∃ t, step (presenting 0x21#64) = .next t ∧
      ∀ w, (presenting 0x21#64).env.events.head? = some (.command w) → decode w ≠ .ok .update :=
  ⟨_, rfl, fun w h => by
    obtain rfl : 0x21#64 = w := by simpa [presenting] using h
    decide⟩

/-- R157: GettersAnswerTheLastUpdate, over one step that accepts a word. -/
theorem witness_update_then_another :
    ∃ (s u t : State) (d : Vector Byte 10), s.env.replyAt 0 = .data d ∧ exec .update s = .next u ∧
      (∀ x ∈ s.env.events, ∃ w, x = .command w ∧ decode w ≠ .ok .update) ∧
      Host.Core.run Sys2Proof.core 1 u = .next t :=
  ⟨{ State.reset with env := { Env.empty with
        events := [.command 0x12#64], replies := [.data #v[1#8, 2#8, 3#8, 4#8, 0#8, 0#8, 0#8, 0#8, 0#8, 0#8]] } },
    _, _, #v[1#8, 2#8, 3#8, 4#8, 0#8, 0#8, 0#8, 0#8, 0#8, 0#8], rfl, rfl,
    fun x h => ⟨0x12#64, by simpa using h, by decide⟩, rfl⟩

/-- R171: OnDemandEndsReady, at `k = 0` and at the last `k` the replies allow. -/
theorem witness_ondemand_ready :
    (∃ s : State, ∃ p ∈ onDemandCommands s.cfg, ∃ d, 0 < max 1 s.env.replies.length ∧
      (∀ j < 0, pollGoesOn s j) ∧ s.env.replyAt 0 = .data d ∧ d[0].getLsbD 6 = true) ∧
    (∃ s : State, ∃ p ∈ onDemandCommands s.cfg, ∃ d, s.env.replies.length = 2 ∧ 1 < max 1 s.env.replies.length ∧
      (∀ j < 1, pollGoesOn s j) ∧ s.env.replyAt 1 = .data d ∧ d[0].getLsbD 6 = true) := by
  constructor
  · exact ⟨given [true] [bytes2 0x40#8 0x00#8] [7#32], (.ondemandProx, 0x10#8), by decide,
      #v[0x40#8, 0#8, 0#8, 0#8, 0#8, 0#8, 0#8, 0#8, 0#8, 0#8], by decide, fun j hj => absurd hj (by omega), rfl, by decide⟩
  · refine ⟨given [true] [bytes2 0x00#8 0x00#8, bytes2 0x40#8 0x00#8] [0#32, 1000#32], (.ondemandAls, 0x12#8), by decide,
      #v[0x40#8, 0#8, 0#8, 0#8, 0#8, 0#8, 0#8, 0#8, 0#8, 0#8], rfl, by decide, ?_, rfl, by decide⟩
    intro j hj
    obtain rfl : j = 0 := by omega
    exact ⟨by decide, by decide⟩

/-- R171: OnDemandTimesOut, at the boundary: elapsed 1000 goes on, elapsed 1001 does not. -/
theorem witness_ondemand_timeout :
    ∃ s : State, ∃ p ∈ onDemandCommands s.cfg, 1 < max 1 s.env.replies.length ∧ (∀ j < 1, pollGoesOn s j) ∧
      pollDone (s.env.replyAt 1) = false ∧ 1000 < (s.env.clockAt (1 + 1) - s.env.clockAt 0).toNat := by
  refine ⟨given [true] [bytes2 0x00#8 0x00#8, .nack] [5000#32, 6000#32, 6001#32], (.ondemandAls, 0x12#8), by decide,
    by decide, ?_, by decide, by decide⟩
  intro j hj
  obtain rfl : j = 0 := by omega
  exact ⟨by decide, by decide⟩

/-- R175: OnDemandHoldsTheBlock, with two replies and with one. -/
theorem witness_ondemand_holds :
    ∃ s : State, ∃ p ∈ onDemandCommands s.cfg, 2 = max 1 s.env.replies.length ∧ ∀ j < 2, pollGoesOn s j := by
  refine ⟨given [true] [bytes2 0xBF#8 0x00#8, .nack] [5000#32, 5999#32, 6000#32], (.ondemandProx, 0x10#8), by decide,
    by decide, ?_⟩
  intro j hj
  obtain rfl | rfl : j = 0 ∨ j = 1 := by omega
  · exact ⟨by decide, by decide⟩
  · exact ⟨by decide, by decide⟩

/-- R175, R239: PollingEndsOnlyByFlagOrDeadline and PollingEndsOnceTheClockPasses. -/
theorem witness_polling :
    (polling (bytes2 0x00#8 0x00#8) 1001#32).cfg.wellFormed = true ∧
    (polling (bytes2 0x00#8 0x00#8) 1001#32).inFlight = some ⟨0x12#8, 0b0001#4⟩ ∧
    resetNext (polling (bytes2 0x00#8 0x00#8) 1001#32).env.events = false ∧
    1000 < ((polling (bytes2 0x00#8 0x00#8) 1001#32).env.clockAt 0 -
      (polling (bytes2 0x00#8 0x00#8) 1001#32).t0).toNat := by decide

/-- R171: ResumedCommandEndsReady, on the first poll and on the second. -/
theorem witness_resumed_ready :
    (polling (bytes2 0x40#8 0x00#8) 9#32).env.replyAt 0 = bytes2 0x40#8 0x00#8 ∧ pollDone (bytes2 0x40#8 0x00#8) = true ∧
    (∃ s : State, s.cfg.wellFormed = true ∧ s.inFlight = some ⟨0x10#8, 0b0000#4⟩ ∧ resetNext s.env.events = false ∧
      1 < max 1 s.env.replies.length ∧ (∀ j < 1, resumedPollGoesOn s j) ∧
      s.env.replyAt 1 = bytes2 0x7F#8 0x00#8 ∧ pollDone (bytes2 0x7F#8 0x00#8) = true) := by
  refine ⟨rfl, rfl, { polling .nack 0#32 with
    inFlight := some ⟨0x10#8, 0b0000#4⟩
    env := { Env.empty with replies := [.nack, bytes2 0x7F#8 0x00#8], advances := [1000] } },
    by decide, rfl, rfl, by decide, ?_, rfl, rfl⟩
  intro j hj
  obtain rfl : j = 0 := by omega
  exact ⟨by decide, by decide⟩

/-- R171: ResumedCommandTimesOut and ResumedCommandHoldsTheBlock: elapsed 1001 ends the loop, elapsed 1000 does not. -/
theorem witness_resumed_deadline :
    (pollDone ((polling .nack 1001#32).env.replyAt 0) = false ∧
      1000 < ((polling .nack 1001#32).env.clockAt 0 - (polling .nack 1001#32).t0).toNat) ∧
    (1 = max 1 (polling .nack 1000#32).env.replies.length ∧ ∀ j < 1, resumedPollGoesOn (polling .nack 1000#32) j) := by
  refine ⟨by decide, by decide, ?_⟩
  intro j hj
  obtain rfl : j = 0 := by omega
  exact ⟨by decide, by decide⟩

/-- R110: FieldWriteClearsAndOrs, a register other than the one written. -/
theorem witness_other_shadow : Shadow.als ≠ Shadow.prox := by decide

/-- R28: ColourCompensationIsPermanent, both clauses. -/
theorem witness_colour_compensation :
    (∃ s t : State, step s = .next t ∧ s.ccMode = true) ∧
    (∃ s t : State, exec (.colorCompEn 0#1) s = .next t ∧ s.ccMode = false ∧ t.ccMode = true) :=
  ⟨⟨{ State.reset with ccMode := true }, _, rfl, rfl⟩, ⟨State.reset, _, rfl, rfl, rfl⟩⟩

/-- R31: StickyAccumulatesAndIsNeverCleared: a command that completes, one that still polls, and a step. -/
theorem witness_sticky :
    (∃ t, exec .getStatus State.reset = .next t ∧ t.inFlight = none) ∧
    (after .ondemandAls (given [true] [.nack] [0#32, 1000#32])).map State.inFlight = some (some ⟨0x12#8, 0b0001#4⟩) ∧
    (∃ t, step State.reset = .next t) :=
  ⟨⟨_, rfl, rfl⟩, by decide, ⟨_, rfl⟩⟩

/-- R206: ResponseFlagsByCommand, with BUS_ERR and TIMEOUT raised. -/
theorem witness_response_flags :
    (after .ondemandAls (given [true] [.nack, bytes2 0x00#8 0x09#8] [0#32, 2000#32])).map
      (fun t => (t.inFlight, t.rspFlags.getLsbD 0, t.rspFlags.getLsbD 1)) = some (none, true, true) := by decide

/-- R26: ShadowsAreWrittenThrough, a command that changes a shadow. -/
theorem witness_shadow_changes :
    ∃ s t : State, exec .proxOffsetEn s = .next t ∧ t.shadow .prox ≠ s.shadow .prox :=
  ⟨State.reset, _, rfl, by decide⟩

/-- R127: ConfigurationNeverReadsBack. -/
theorem witness_configuration_command :
    ∃ t, (opcodeOf .proxIntDis).toNat < 0x20 ∧ exec .proxIntDis State.reset = .next t := ⟨_, by decide, rfl⟩

/-- R201: DataPathIgnoresWriteAcks, with the acknowledgement turned round. -/
theorem witness_other_acks :
    ∃ t t' : State, exec .proxOffsetEn (given [true] [] []) = .next t ∧
      exec .proxOffsetEn { given [true] [] [] with env := { (given [true] [] []).env with acks := [false], acksDrawn := 3 } } =
        .next t' :=
  ⟨_, _, rfl, rfl⟩

/-- R237: LegacyAlsInterruptStaysEnabled, when the host asks for the disable itself. -/
theorem witness_legacy_als_interrupt :
    ∃ s t : State, s.cfg.aintDisPolicy = .legacy ∧
      s.shInt &&& s.cfg.aintMask = s.cfg.aintMask ∧ s.env.events = [.command 0x17#64] ∧ step s = .next t :=
  ⟨{ presenting 0x17#64 with shInt := 0x0C#8 }, _, rfl, by decide, rfl, rfl⟩

/-- R22 to R34, R54, R152: the four invariants hold of a state that a step leaves for another. -/
theorem witness_invariants :
    ∃ s t : State, ShadowInv s ∧ PortInv s ∧ LogInv s ∧ CacheInv s ∧ step s = .next t :=
  ⟨presenting 0x12#64, _,
    ⟨by decide, by decide, by decide, by decide, .inl (by decide), .inl (by decide), by decide⟩,
    ⟨by decide, by decide, fun h => absurd rfl h, fun h => absurd h (by decide), by decide,
      fun c h => absurd h (by simp [presenting, State.reset, State.powerOn]), by decide⟩,
    ⟨fun x h => absurd h (by simp [presenting, State.reset, State.powerOn]),
      fun c h => absurd h (by simp [presenting, State.reset, State.powerOn])⟩,
    ⟨fun _ => ⟨rfl, rfl⟩⟩, rfl⟩

/-- R35: PowerOnStateHasTheInvariants: a configuration that meets R7. -/
theorem witness_power_on : Config.ref.wellFormed = true := by decide

end Sys2Proof.Tests
end

section
/-! The statements of spec/00_scope.md: every step keeps every logged transaction legal (R5, R51, R53, R54), a
configuration is refused exactly when it breaks R7, and nothing happens without an accepted command or a reset (R5, R34). -/

namespace Sys2Proof

/-! ## The constraints of R7, in numbers -/

/-- The seven bytes with exactly two adjacent bits are 3 shifted: a check of all bytes, and so is the next lemma. -/
theorem twoAdjacentBits_iff (m : Byte) : twoAdjacentBits m = true ↔ ∃ k < 7, m.toNat = 3 * 2 ^ k := by
  revert m
  decide

theorem clearOfPersistence_iff (m : Byte) : clearOfPersistence m = true ↔ m.toNat < 32 := by
  revert m
  decide

theorem Cfg.gainCodesDistinct_iff (c : Cfg) : c.gainCodesDistinct = true ↔
    [c.gainCode200, c.gainCode800, c.gainCode3200, c.gainCode25600].Nodup := by
  simp [Cfg.gainCodesDistinct, and_assoc]

/-- The check of the model is the constraints of R7, one for one. -/
theorem Cfg.wellFormed_iff (c : Cfg) : c.wellFormed = true ↔
    (∃ k < 7, c.pintMask.toNat = 3 * 2 ^ k) ∧ (∃ k < 7, c.aintMask.toNat = 3 * 2 ^ k) ∧
      c.pintMask.toNat < 32 ∧ c.aintMask.toNat < 32 ∧ c.pintMask &&& c.aintMask = 0x00#8 ∧
      [c.gainCode200, c.gainCode800, c.gainCode3200, c.gainCode25600].Nodup ∧
      c.gainCode200 = 0#2 ∧ c.measBase.toNat ≤ 0xF6 := by
  simp only [Cfg.wellFormed, Bool.and_eq_true, beq_iff_eq, decide_eq_true_eq, twoAdjacentBits_iff,
    clearOfPersistence_iff, Cfg.gainCodesDistinct_iff, BitVec.le_def, BitVec.reduceToNat, and_assoc]

end Sys2Proof

namespace Sys2Proof.Machine

open Sys2Proof

/-! ## What the operations inside a command leave of the configuration (R6) -/

@[simp] theorem State.start_state (s : State) : s.start.state = s := rfl

@[simp] theorem Run.modify_state (r : Run) (g : State → State) : (r.modify g).state = g r.state := rfl

@[simp] theorem Run.write_state_cfg (r : Run) (addr v : Byte) : (r.write addr v).state.cfg = r.state.cfg := rfl

@[simp] theorem Run.fieldWrite_state_cfg (r : Run) (x : Shadow) (addr mask code : Byte) :
    (r.fieldWrite x addr mask code).state.cfg = r.state.cfg := by
  simp [Run.fieldWrite_eq]

@[simp] theorem afterPoll_cfg (s : State) : (afterPoll s).cfg = s.cfg := by rw [afterPoll_eq]

@[simp] theorem afterRound_cfg (s : State) : (afterRound s).cfg = s.cfg := by rw [afterRound_eq]

@[simp] theorem onDemandTrigger_state_cfg (s : State) : (onDemandTrigger s).state.cfg = s.cfg := by rw [onDemandTrigger_eq]

/-! ## Every command answers, and the three with an operand check in one equation each (R88) -/

/-- The operand check of R88, whatever the command does with an operand that passes it. -/
theorem refuseZero_eq (a : Half) (s t : State) :
    (if a = 0#16 then .next (s.abortWith invalidOperand) else .next t : Host.Outcome State Fault Refusal) =
      .next (if a = 0#16 then doneWith s invalidOperand else t) := by
  rw [← abortWith_eq_doneWith, apply_ite Host.Outcome.next]

theorem exec_setProxRate_eq (a : Half) (s : State) :
    exec (.setProxRate a) s = .next (if a = 0#16 then doneWith s invalidOperand
      else (s.start.fieldWrite .prox s.cfg.aProxCfg 0x07#8 (codeByte (pRateCode a))).finish) :=
  refuseZero_eq a s _

theorem exec_setIntPersist_eq (a : Half) (s : State) :
    exec (.setIntPersist a) s = .next (if a = 0#16 then doneWith s invalidOperand
      else (s.start.fieldWrite .int s.cfg.aIntCfg 0xE0#8 (codeByte (persCode a) <<< 5)).finish) :=
  refuseZero_eq a s _

theorem exec_setAlsRate_eq (a : Half) (s : State) :
    exec (.setAlsRate a) s = .next (if a = 0#16 then doneWith s invalidOperand
      else (s.start.fieldWrite .als s.cfg.aAlsCfg 0x07#8 (codeByte (aRateCode a))).finish) :=
  refuseZero_eq a s _

/-- No command ends in a fault or a refusal (R203, R207). -/
theorem exec_answers (i : Instr) (s : State) : ∃ t, exec i s = .next t := by
  cases i with
  | setProxRate a => exact ⟨_, exec_setProxRate_eq a s⟩
  | setIntPersist a => exact ⟨_, exec_setIntPersist_eq a s⟩
  | setAlsRate a => exact ⟨_, exec_setAlsRate_eq a s⟩
  | _ => exact ⟨_, rfl⟩

/-! ## Legal transactions (R5, R51, R53, R54) -/

theorem legalEntry_write {c : Cfg} {addr : Byte} (writable : addr ∈ writableRegisters c) (v : Byte) (ack : Bool) :
    legalEntry c (.write c.devAddr7 addr v ack) = true := by
  simpa [legalEntry] using writable

/-- No read is longer than the ten bytes a reply holds (R54, R55). -/
theorem length_le_ten_of_legalReads {c : Cfg} {addr : Byte} {n : Nat} (legal : (addr, n) ∈ legalReads c) : n ≤ 10 := by
  have short : ∀ read ∈ legalReads c, read.2 ≤ 10 := by simp [legalReads]
  exact short _ legal

/-- R53: an acknowledged read of at most ten bytes delivers all of them, and one that is not acknowledged none. -/
theorem replyBytes_length {n : Nat} (short : n ≤ 10) (r : ReadReply) :
    (replyBytes n r).length = if replyAcked r then n else 0 := by
  cases r with
  | nack => rfl
  | data d => simpa [replyBytes, replyAcked] using short

theorem legalEntry_read {c : Cfg} {addr : Byte} {n : Nat} (legal : (addr, n) ∈ legalReads c) (r : ReadReply) :
    legalEntry c (.read c.devAddr7 addr n (replyAcked r) (replyBytes n r)) = true := by
  simpa [legalEntry, replyBytes_length (length_le_ten_of_legalReads legal)] using legal

/-- UPDATE's burst is one of the reads of R54 in both modes (R151). -/
theorem burst_mem_legalReads (c : Cfg) (ccMode : Bool) : (c.measBase, burstLen ccMode) ∈ legalReads c := by
  cases ccMode <;> simp [legalReads, burstLen]

theorem poll_mem_legalReads (c : Cfg) : (c.aCmd, 1) ∈ legalReads c := by
  simp [legalReads]

/-- A high-byte address at which an on-demand command makes its final read (R172, R173). -/
def isFinalAddr (c : Cfg) (h : Byte) : Prop := h = c.measBase ∨ h = c.measBase + 2#8

theorem finalRead_mem_legalReads {c : Cfg} {h : Byte} (final : isFinalAddr c h) : (h, 2) ∈ legalReads c := by
  rcases final with rfl | rfl <;> simp [legalReads]

/-! ## The operations keep the invariant of the log -/

/-- The invariant speaks of the log, the configuration and the command in flight only; a command may also have ended. -/
theorem LogInv.of_same_log {s t : State} (inv : LogInv s) (log : t.log = s.log) (cfg : t.cfg = s.cfg)
    (flight : t.inFlight = s.inFlight ∨ t.inFlight = none) : LogInv t where
  entriesLegal := by
    rw [log, cfg]
    exact inv.entriesLegal
  flightAddr c flying := by
    rcases flight with same | ended
    · rw [cfg]
      exact inv.flightAddr c (same ▸ flying)
    · simp [ended] at flying

theorem LogInv.append {s : State} {x : LogEntry} (inv : LogInv s) (legal : legalEntry s.cfg x = true) :
    LogInv (s.append x) where
  entriesLegal y mem := by
    rcases List.mem_append.1 mem with old | new
    · exact inv.entriesLegal y old
    · rw [List.mem_singleton.1 new]
      exact legal
  flightAddr := inv.flightAddr

theorem LogInv.setEnv {s : State} (inv : LogInv s) (e : Env) : LogInv (s.setEnv e) :=
  inv.of_same_log rfl rfl (.inl rfl)

theorem LogInv.setHs {s : State} (inv : LogInv s) (h : HsState) : LogInv (s.setHs h) :=
  inv.of_same_log rfl rfl (.inl rfl)

theorem LogInv.setGfSel {s : State} (inv : LogInv s) (g : GainEntry) : LogInv (s.setGfSel g) :=
  inv.of_same_log rfl rfl (.inl rfl)

theorem LogInv.enableCc {s : State} (inv : LogInv s) : LogInv s.enableCc :=
  inv.of_same_log rfl rfl (.inl rfl)

theorem LogInv.setShadow {s : State} (inv : LogInv s) (x : Shadow) (v : Byte) : LogInv (s.setShadow x v) :=
  inv.of_same_log (by simp) (by simp) (.inl (by simp))

/-- The response of a command ends it and leaves the log as it is (R67, R87). -/
theorem LogInv.doneWith {s : State} (inv : LogInv s) (f : Flags) : LogInv (doneWith s f) :=
  inv.of_same_log rfl rfl (.inr rfl)

theorem LogInv.answer {s : State} (inv : LogInv s) (v : Half) : LogInv (s.answer v) :=
  inv.of_same_log rfl rfl (.inr rfl)

theorem LogInv.accepted {s : State} (inv : LogInv s) (rest : List HostEvent) : LogInv (accepted s rest) :=
  inv.of_same_log rfl rfl (.inl rfl)

theorem LogInv.suspend {s : State} (inv : LogInv s) {c : InFlight} (final : isFinalAddr s.cfg c.addr) :
    LogInv (s.suspend c) where
  entriesLegal := inv.entriesLegal
  flightAddr d flying := by
    obtain rfl : c = d := by simpa using flying
    exact final

/-- After a power-on reset the log is empty and no command is in flight (R67, R230). -/
theorem LogInv.powerOnReset (s : State) : LogInv s.powerOnReset where
  entriesLegal := by simp
  flightAddr := by simp

theorem LogInv.memWrite {s : State} (inv : LogInv s) {addr : Byte} (writable : addr ∈ writableRegisters s.cfg)
    (v : Byte) : LogInv (memWrite addr v s).2 :=
  (inv.setEnv _).append (legalEntry_write writable v _)

theorem LogInv.memRead {s : State} (inv : LogInv s) {addr : Byte} {n : Nat} (legal : (addr, n) ∈ legalReads s.cfg) :
    LogInv (memRead addr n s).2 :=
  (inv.setEnv _).append (legalEntry_read legal _)

theorem LogInv.clockNow {s : State} (inv : LogInv s) : LogInv (clockNow s).2 :=
  (inv.setEnv _).append rfl

theorem LogInv.modify {r : Run} {g : State → State} (inv : LogInv (g r.state)) : LogInv (r.modify g).state :=
  inv

theorem LogInv.write {r : Run} (inv : LogInv r.state) {addr : Byte} (writable : addr ∈ writableRegisters r.state.cfg)
    (v : Byte) : LogInv (r.write addr v).state :=
  inv.memWrite writable v

theorem LogInv.fieldWrite {r : Run} (inv : LogInv r.state) (x : Shadow) {addr : Byte}
    (writable : addr ∈ writableRegisters r.state.cfg) (mask code : Byte) :
    LogInv (r.fieldWrite x addr mask code).state := by
  rw [Run.fieldWrite_eq]
  exact .write (inv.setShadow x _) (by simpa using writable) _

theorem LogInv.writeThresholds {r : Run} (inv : LogInv r.state) {topH topL botH botL : Byte}
    (writable : ∀ addr ∈ [topH, topL, botH, botL], addr ∈ writableRegisters r.state.cfg) (top bottom : Half) :
    LogInv (r.writeThresholds topH topL botH botL top bottom).state := by
  unfold Run.writeThresholds
  exact (((inv.write (by simp [writable]) _).write (by simp [writable]) _).write (by simp [writable]) _).write
    (by simp [writable]) _

/-- The done stage of a command (R87). -/
theorem LogInv.finish {r : Run} (inv : LogInv r.state) : LogInv r.finish :=
  inv.doneWith r.flags

theorem LogInv.decodeBurst {s : State} (inv : LogInv s) (d : Vector Byte 10) : LogInv (s.decodeBurst d) := by
  unfold State.decodeBurst
  dsimp only
  split
  · exact inv.of_same_log rfl rfl (.inl rfl)
  · exact inv.of_same_log rfl rfl (.inl rfl)

/-! ## The on-demand handshake keeps the invariant of the log (R171) -/

theorem LogInv.finalRead {r : Run} (inv : LogInv r.state) {h : Byte} (final : isFinalAddr r.state.cfg h) :
    LogInv (r.finalRead h) := by
  have read : LogInv (Machine.memRead h 2 r.state).2 := inv.memRead (finalRead_mem_legalReads final)
  unfold Run.finalRead
  dsimp only
  split
  · exact read.doneWith _
  · exact read.of_same_log rfl rfl (.inr rfl)

theorem LogInv.afterPoll {s : State} (inv : LogInv s) : LogInv (afterPoll s) :=
  inv.memRead (poll_mem_legalReads s.cfg)

theorem LogInv.afterRound {s : State} (inv : LogInv s) : LogInv (afterRound s) :=
  inv.afterPoll.clockNow

/-- By induction on the rounds: a round logs a legal poll and a clock sample, and the loop ends with a legal read or leaves a
command in flight whose final read will be legal. -/
theorem LogInv.pollLoop (k : Nat) {r : Run} (inv : LogInv r.state) {h : Byte} (final : isFinalAddr r.state.cfg h) :
    LogInv (pollLoop k h r) := by
  induction k generalizing r with
  | zero => exact inv.suspend final
  | succ k ih =>
    rw [pollLoop_succ]
    split
    · exact (inv.afterPoll.setHs .ready).finalRead (r := ⟨_, _⟩) (by simpa using final)
    · split
      · exact (inv.afterRound.setHs .timedOut).finalRead (r := ⟨_, _⟩) (by simpa using final)
      · exact ih inv.afterRound (by simpa using final)

/-- The trigger of a handshake is a write of the command register and a clock sample. -/
theorem LogInv.onDemandTrigger {s : State} (inv : LogInv s) : LogInv (onDemandTrigger s).state := by
  have writable : s.cfg.aCmd ∈ writableRegisters s.cfg := by simp [writableRegisters]
  have written : LogInv ((s.setHs .triggered).start.write s.cfg.aCmd s.cfg.cmdOndemand).state :=
    (inv.setHs .triggered).write (r := (s.setHs .triggered).start) writable _
  unfold Machine.onDemandTrigger
  exact written.clockNow.of_same_log (by simp) (by simp) (.inl (by simp))

theorem LogInv.onDemand {s : State} (inv : LogInv s) {h : Byte} (final : isFinalAddr s.cfg h) :
    LogInv (onDemand h s) :=
  inv.onDemandTrigger.pollLoop _ (by simpa using final)

theorem LogInv.resumeCommand {s : State} (inv : LogInv s) {c : InFlight} (flying : s.inFlight = some c) :
    LogInv (resumeCommand c s) :=
  inv.pollLoop _ (r := ⟨_, _⟩) (inv.flightAddr c flying)

/-- The operand check of R88: a refused operand is answered at once. -/
theorem LogInv.unlessZero {s t : State} (inv : LogInv s) (a : Half) (keeps : LogInv t) :
    LogInv (if a = 0#16 then Machine.doneWith s invalidOperand else t) := by
  split
  · exact inv.doneWith _
  · exact keeps

/-! ## Every command, every work and every step keeps the invariant of the log -/

/-- UPDATE reads one legal burst; what it decodes is not in the log (R152). -/
theorem LogInv.execUpdate {s t : State} (inv : LogInv s) (answers : execUpdate s = .next t) : LogInv t := by
  have read : LogInv (Machine.memRead s.cfg.measBase (burstLen s.ccMode) s).2 :=
    inv.memRead (burst_mem_legalReads s.cfg s.ccMode)
  cases answers
  split
  · exact read.doneWith _
  · exact (read.decodeBurst _).doneWith _

/-- BEGIN's five writes go to registers of R51, and the shadows it zeroes are not in the log (R100). -/
theorem LogInv.execBegin {s t : State} (inv : LogInv s) (answers : execBegin s = .next t) : LogInv t := by
  cases answers
  refine .finish (.write (.write (.write (.modify (.setGfSel (.setShadow ?afterIred _ _) _)) ?_ _) ?_ _) ?_ _)
  case afterIred =>
    refine .write (.modify (.setShadow ?afterProx _ _)) (by simp [writableRegisters]) _
    exact .write (.modify (.setShadow inv _ _)) (by simp [writableRegisters]) _
  all_goals simp [writableRegisters]

theorem LogInv.exec {s t : State} {i : Instr} (inv : LogInv s) (answers : exec i s = .next t) : LogInv t := by
  cases i with
  | beginInit => exact inv.execBegin answers
  | update => exact inv.execUpdate answers
  | setProxRate a =>
    cases (exec_setProxRate_eq a s).symm.trans answers
    exact inv.unlessZero a (.finish (.fieldWrite inv _ (by simp [writableRegisters]) _ _))
  | setIntPersist a =>
    cases (exec_setIntPersist_eq a s).symm.trans answers
    exact inv.unlessZero a (.finish (.fieldWrite inv _ (by simp [writableRegisters]) _ _))
  | setAlsRate a =>
    cases (exec_setAlsRate_eq a s).symm.trans answers
    exact inv.unlessZero a (.finish (.fieldWrite inv _ (by simp [writableRegisters]) _ _))
  | proxOffsetEn | proxOffsetDis | proxIntDis | alsIntDis =>
    cases answers
    exact .finish (.fieldWrite inv _ (by simp [writableRegisters]) _ _)
  | proxIntEn a b | alsIntEn a b =>
    cases answers
    exact .finish (.writeThresholds (.fieldWrite inv _ (by simp [writableRegisters]) _ _) (by simp [writableRegisters]) _ _)
  | colorCompEn p =>
    cases answers
    exact .finish (.modify (.enableCc (.write inv (by simp [writableRegisters]) _)))
  | setAdcGain a =>
    cases answers
    exact .finish (.fieldWrite (.modify (inv.setGfSel _)) _ (by simp [writableRegisters]) _ _)
  | ondemandProx =>
    cases answers
    exact inv.onDemand (.inl rfl)
  | ondemandAls =>
    cases answers
    exact inv.onDemand (.inr rfl)
  | getProxRaw | getAlsRaw | getBlue1Raw | getBlue2Raw | getGainFactor | readShProx | readShIred | readShAls | readShInt
  | getStatus =>
    cases answers
    exact inv.answer _

theorem Works.keeps_logInv {s v u : State} (works : Works s v u) (inv : LogInv s) : LogInv u := by
  cases works with
  | accepts w rest i _ presents legal answers => exact (inv.accepted rest).exec answers
  | rejects w rest e presents illegal => exact (inv.accepted rest).doneWith _
  | resumes c sound flying => exact inv.resumeCommand flying

/-- A power-on reset that meets a command empties the log, or leaves the log the command has made (R232). -/
theorem LogInv.meetReset (s : State) {t : State} (inv : LogInv t) (n : Nat) : LogInv (s.meetReset t n) := by
  rcases s.meetReset_cases t n with ⟨-, cut⟩ | ⟨-, -, nearer⟩ | ⟨-, -, responded⟩
  · rw [cut]
    exact .powerOnReset _
  · rw [nearer]
    exact inv.setEnv _
  · rw [responded]
    exact inv

/-- Settles O56, along the three things a step can do (`step_cases`). -/
theorem stepKeepsLogInvariant : Obligations.StepKeepsLogInvariant := by
  intro s t inv taken
  obtain ⟨-, rfl | ⟨-, -, rfl⟩ | ⟨v, u, works, ⟨-, rfl⟩ | ⟨n, rest, -, rfl⟩⟩⟩ := step_cases taken
  · exact inv
  · exact .powerOnReset s
  · exact works.keeps_logInv inv
  · exact (works.keeps_logInv inv).meetReset v n

/-! ## A step of a block with a sound configuration -/

/-- A power-on reset on the way does not keep a work from its answer. -/
theorem underReset_answers (s u : State) : ∃ t, underReset s (.next u) = .next t := by
  unfold underReset
  split
  · exact ⟨_, rfl⟩
  · exact ⟨_, rfl⟩

theorem runAccepted_answers (w : CmdWord) (s : State) : ∃ t, runAccepted w s = .next t := by
  unfold runAccepted
  split
  · exact ⟨_, rfl⟩
  · exact exec_answers _ s

theorem runCycle_answers (s : State) : ∃ t, runCycle s = .next t := by
  unfold runCycle
  split
  · exact underReset_answers s _
  · exact ⟨_, rfl⟩
  · next w rest _ _ =>
    split
    · obtain ⟨u, answers⟩ := runAccepted_answers w s.accept
      rw [answers]
      exact underReset_answers s.accept u
    · exact ⟨_, rfl⟩
  · exact ⟨_, rfl⟩

theorem step_of_wellFormed {s : State} (sound : s.cfg.wellFormed = true) : step s = runCycle s := by
  simp [step, sound]

theorem step_refused_iff (s : State) : step s = .refused .illFormedConfig ↔ ¬ s.cfg.wellFormed = true := by
  constructor
  · intro refused sound
    obtain ⟨t, answers⟩ := runCycle_answers s
    rw [step_of_wellFormed sound, answers] at refused
    cases refused
  · intro unsound
    simp [step, unsound]

/-- Settles O13: `step` refuses by `Cfg.wellFormed` alone (log 11), which is the constraints of R7. -/
theorem configurationRefusedExactlyByConstraints : Obligations.ConfigurationRefusedExactlyByConstraints := by
  intro s
  rw [step_refused_iff, Cfg.wellFormed_iff]

/-- Settles O9: with no command in flight, `runCycle` leaves the state when nothing is presented, and when the word
presented meets `cmd_ready = 0`. -/
theorem nothingHappensWithoutAcceptance : Obligations.NothingHappensWithoutAcceptance := by
  intro s sound idle quiet
  rw [step_of_wellFormed sound]
  rcases quiet with nothing | ⟨w, rest, pending, busy⟩
  · simp only [runCycle, idle, nothing]
  · simp [runCycle, idle, pending, busy]

end Sys2Proof.Machine
end

section
/-! The power-on state (R35, R230, R232): it has the four invariants, and every reset that a block takes at once gives it. -/

namespace Sys2Proof.Machine

open Sys2Proof

/-! ## The power-on state has the four invariants -/

theorem gainCode200_of_wellFormed {c : Cfg} (sound : c.wellFormed = true) : c.gainCode200 = 0#2 := by
  obtain ⟨-, -, -, -, -, -, zero, -⟩ := c.wellFormed_iff.1 sound
  exact zero

/-- The gain field is 0 at power-on, which is the code of entry 0 (R7, R27). -/
theorem ShadowInv.powerOn {c : Cfg} (sound : c.wellFormed = true) : ShadowInv (State.powerOn c) where
  proxUnnamed := by simp
  iredZero := rfl
  alsUnnamed := by simp
  intUnnamed := by simp
  pintPair := by simp
  aintPair := by simp
  gainPaired := by simp [gainCode, gainCode200_of_wellFormed sound]

theorem PortInv.powerOn (c : Cfg) : PortInv (State.powerOn c) where
  readyIffIdle := by simp
  triggeredIffInFlight := by simp
  silentInFlight := by simp
  dataIsResult := by simp
  flagsLegal := by simp [legalFlags]
  flightFlags := by simp
  stickyHolds := by simp

theorem LogInv.powerOn (c : Cfg) : LogInv (State.powerOn c) where
  entriesLegal := by simp
  flightAddr := by simp

theorem CacheInv.powerOn (c : Cfg) : CacheInv (State.powerOn c) where
  bluesZero := by simp

/-- Settles O58; of the constraints of R7 only the gain code of entry 0 matters. -/
theorem powerOnStateHasTheInvariants : Obligations.PowerOnStateHasTheInvariants :=
  ⟨fun c sound => ⟨.powerOn sound, .powerOn c, .powerOn c, .powerOn c⟩,
    .powerOn (by decide), .powerOn _, .powerOn _, .powerOn _⟩

/-! ## A reset that is taken at once -/

/-- A command that is cut before its first transaction has used up no input (R232; log 6). -/
theorem State.meetReset_zero (s t : State) : s.meetReset t 0 = s.powerOnReset := by
  simp [State.meetReset, State.cutAfter]

/-- An idle block, and one whose command in flight the reset meets before its next transaction, takes the reset at once. -/
theorem step_reset_at_once {s : State} {rest : List HostEvent} {n : Nat} (sound : s.cfg.wellFormed = true)
    (pending : s.env.events = .reset n :: rest) (atOnce : s.inFlight = none ∨ n = 0) :
    step s = .next s.powerOnReset := by
  rw [step_of_wellFormed sound]
  cases flying : s.inFlight with
  | none => simp only [runCycle, flying, pending]
  | some c =>
    obtain rfl : n = 0 := by simpa [flying] using atOnce
    simp only [runCycle, flying]
    rw [underReset_of_reset s _ 0 rest pending, State.meetReset_zero]

/-- Settles O10: the reset is taken at once, and the state it leaves is the one of R35. -/
theorem powerOnResetIdleOrBeforeTheNextTransaction : Obligations.PowerOnResetIdleOrBeforeTheNextTransaction := by
  intro s rest n sound pending atOnce
  refine ⟨s.powerOnReset, step_reset_at_once sound pending atOnce, ?_⟩
  simp [gainIndex, hsIndex, Env.dropEvent, pending]

end Sys2Proof.Machine
end

section
/-! What a command leaves, said once (spec/30_encoding.md R83, R87; spec/10_state.md R38): the next state of each family of
commands, of the poll loop (R171), and of a step. The statements of spec/10_state.md are derived from it. -/

namespace Sys2Proof.Machine

open Sys2Proof

/-! ## What a command does at its ports -/

/-- The state after these transactions and clock samples, which have left these inputs (R58, R67). -/
def State.transact (s : State) (new : List LogEntry) (e : Env) : State := { s with log := s.log ++ new, env := e }

section Transact

variable (s : State) (new : List LogEntry) (e : Env)

@[simp] theorem State.transact_shadow (x : Shadow) : (s.transact new e).shadow x = s.shadow x := by cases x <;> rfl
@[simp] theorem State.transact_shProx : (s.transact new e).shProx = s.shProx := rfl
@[simp] theorem State.transact_shIred : (s.transact new e).shIred = s.shIred := rfl
@[simp] theorem State.transact_shAls : (s.transact new e).shAls = s.shAls := rfl
@[simp] theorem State.transact_shInt : (s.transact new e).shInt = s.shInt := rfl
@[simp] theorem State.transact_gfSel : (s.transact new e).gfSel = s.gfSel := rfl
@[simp] theorem State.transact_ccMode : (s.transact new e).ccMode = s.ccMode := rfl
@[simp] theorem State.transact_cProx : (s.transact new e).cProx = s.cProx := rfl
@[simp] theorem State.transact_cAls : (s.transact new e).cAls = s.cAls := rfl
@[simp] theorem State.transact_cBlue1 : (s.transact new e).cBlue1 = s.cBlue1 := rfl
@[simp] theorem State.transact_cBlue2 : (s.transact new e).cBlue2 = s.cBlue2 := rfl
@[simp] theorem State.transact_hsState : (s.transact new e).hsState = s.hsState := rfl
@[simp] theorem State.transact_t0 : (s.transact new e).t0 = s.t0 := rfl
@[simp] theorem State.transact_sticky : (s.transact new e).sticky = s.sticky := rfl
@[simp] theorem State.transact_result : (s.transact new e).result = s.result := rfl
@[simp] theorem State.transact_rspFlags : (s.transact new e).rspFlags = s.rspFlags := rfl
@[simp] theorem State.transact_log : (s.transact new e).log = s.log ++ new := rfl
@[simp] theorem State.transact_cfg : (s.transact new e).cfg = s.cfg := rfl

end Transact

/-! ## The poll loop -/

/-- What the poll loop of an on-demand command leaves, from `s` with the flags `f` so far (R171): the command is still in
flight, or it has ended with its flag seen (READY) or with its time up (TIMED_OUT). -/
inductive PollsTo (s : State) (h : Byte) (f : Flags) : State → Prop where
  /-- the command is still polling -/
  | holds (new : List LogEntry) (e : Env) (acked : Bool) :
      PollsTo s h f ((s.transact new e).suspend ⟨h, f ||| nackFlag acked⟩)
  /-- the command has made its final read and responds -/
  | ends (new : List LogEntry) (e : Env) (acked : Bool) (v : Half) (hs : HsState) (late : Flags)
      (ending : (hs = .ready ∧ late = 0b0000#4) ∨ (hs = .timedOut ∧ late = timeoutErr)) :
      PollsTo s h f ((((s.setHs hs).setResult v).transact new e).respond (f ||| nackFlag acked ||| late))

@[simp] theorem or_nackFlag_true (f : Flags) : f ||| nackFlag true = f := by
  simp [nackFlag]

theorem or_nackFlag_late (f late : Flags) (a b : Bool) :
    f ||| nackFlag a ||| late ||| nackFlag b = f ||| nackFlag (a && b) ||| late := by
  rw [← or_nackFlag_nackFlag, BitVec.or_assoc, BitVec.or_comm late, ← BitVec.or_assoc]

/-- The final read of R171 appends one entry, may set `RESULT`, and raises BUS_ERR if it is not acknowledged. -/
theorem Run.finalRead_responds (r : Run) (h : Byte) : ∃ (x : LogEntry) (e : Env) (acked : Bool) (v : Half),
    r.finalRead h = ((r.state.setResult v).transact [x] e).respond (r.flags ||| nackFlag acked) := by
  rw [Run.finalRead_eq]
  cases r.state.env.replyAt 0 with
  | nack => exact ⟨_, _, false, r.state.result, rfl⟩
  | data d => exact ⟨_, _, true, pair d[0] d[1], by rw [or_nackFlag_true]; rfl⟩

/-- A loop that has ended in `hs` after some transactions ends with the final read (R171). -/
theorem PollsTo.of_finalRead (s : State) (h : Byte) (f : Flags) (new : List LogEntry) (e : Env) (acked : Bool)
    {hs : HsState} {late : Flags} (ending : (hs = .ready ∧ late = 0b0000#4) ∨ (hs = .timedOut ∧ late = timeoutErr)) :
    PollsTo s h f (Run.finalRead ⟨f ||| nackFlag acked ||| late, (s.transact new e).setHs hs⟩ h) := by
  obtain ⟨x, e', acked', v, responds⟩ :=
    Run.finalRead_responds ⟨f ||| nackFlag acked ||| late, (s.transact new e).setHs hs⟩ h
  have ends := PollsTo.ends (s := s) (h := h) (f := f) (new ++ [x]) e' (acked && acked') v hs late ending
  rw [responds, or_nackFlag_late]
  simpa [State.transact, State.setHs, State.setResult] using ends

theorem pollLoop_pollsTo (k : Nat) (h : Byte) (f : Flags) (s : State) : PollsTo s h f (pollLoop k h ⟨f, s⟩) := by
  rcases pollLoop_cases k h f s with ⟨-, holds⟩ | ⟨j, -, -, -, ready⟩ | ⟨j, -, -, -, -, timedOut⟩
  · rw [holds]
    exact .holds _ _ _
  · rw [ready, afterPoll_eq, ← BitVec.or_zero (x := f ||| _)]
    simp only [afterRounds, List.append_assoc]
    exact .of_finalRead s h f _ _ _ (.inl ⟨rfl, rfl⟩)
  · rw [timedOut]
    exact .of_finalRead s h f _ _ _ (.inr ⟨rfl, rfl⟩)

/-! ## The commands -/

/-- The device register of a shadow (R22 to R26). -/
def deviceRegister (c : Cfg) : Shadow → Byte
  | .prox => c.aProxCfg
  | .ired => c.aIredCfg
  | .als => c.aAlsCfg
  | .int => c.aIntCfg

/-- The value a field write gives a shadow (R110): the code is ORed in as computed. -/
def fieldValue (old mask code : Byte) : Byte := (old &&& ~~~mask) ||| code

/-- The commands that make one field write (R110), and no other: the gain entry the command leaves selected, the shadow, the
mask and the code. -/
inductive FieldOf (s : State) : Instr → GainEntry → Shadow → Byte → Byte → Prop where
  | proxRate (a : Half) (passes : a ≠ 0#16) :
      FieldOf s (.setProxRate a) s.gfSel .prox 0x07#8 (codeByte (pRateCode a))
  | persistence (a : Half) (passes : a ≠ 0#16) :
      FieldOf s (.setIntPersist a) s.gfSel .int 0xE0#8 (codeByte (persCode a) <<< 5)
  | offsetOn : FieldOf s .proxOffsetEn s.gfSel .prox 0x08#8 0x08#8
  | offsetOff : FieldOf s .proxOffsetDis s.gfSel .prox 0x08#8 0x00#8
  | proxIntOn (a b : Half) : FieldOf s (.proxIntEn a b) s.gfSel .int s.cfg.pintMask s.cfg.pintMask
  | proxIntOff : FieldOf s .proxIntDis s.gfSel .int s.cfg.pintMask 0x00#8
  | alsIntOn (a b : Half) : FieldOf s (.alsIntEn a b) s.gfSel .int s.cfg.aintMask s.cfg.aintMask
  | alsIntOff (code : Byte) (policy : code = s.cfg.aintMask ∨ code = 0x00#8) :
      FieldOf s .alsIntDis s.gfSel .int s.cfg.aintMask code
  | adcGain (a : Half) :
      FieldOf s (.setAdcGain a) (gainSel a) .als 0x18#8 ((gainCode s.cfg (gainSel a)).setWidth 8 <<< 3)
  | alsRate (a : Half) (passes : a ≠ 0#16) :
      FieldOf s (.setAlsRate a) s.gfSel .als 0x07#8 (codeByte (aRateCode a))

/-- The opcodes of the raw getters and the accessors (R83): they answer a value. -/
def readerOpcodes : List Byte := [0x21#8, 0x22#8, 0x23#8, 0x24#8, 0x30#8, 0x31#8, 0x32#8, 0x33#8, 0x34#8, 0x35#8]

/-- The opcodes of the on-demand commands (R83). -/
def onDemandOpcodes : List Byte := [0x28#8, 0x29#8]

/-- What a command run from `s` leaves, by family (R38, R100 to R126, R152 to R156, R171 to R173, R190 to R195). Of the
entries it appends those are named that write a shadow through (R26); the inputs it draws are left open. -/
inductive CommandLeaves (s : State) : Instr → State → Prop where
  /-- an operand that fails its check is refused (R88) -/
  | refuses (i : Instr) (fails : i.wellFormed = false) : CommandLeaves s i (s.respond invalidOperand)
  /-- a getter or an accessor answers -/
  | answers (i : Instr) (v : Half) (reader : opcodeOf i ∈ readerOpcodes) :
      CommandLeaves s i ((s.setResult v).respond 0b0000#4)
  /-- one shadow takes a field and is written; thresholds may follow -/
  | writesField (i : Instr) (g : GainEntry) (x : Shadow) (mask code : Byte) (field : FieldOf s i g x mask code)
      (ack : Bool) (more : List LogEntry) (e : Env) (acked : Bool) :
      CommandLeaves s i ((((s.setGfSel g).setShadow x (fieldValue (s.shadow x) mask code)).transact
        (.write s.cfg.devAddr7 (deviceRegister s.cfg x) (fieldValue (s.shadow x) mask code) ack :: more) e).respond
        (nackFlag acked))
  /-- BEGIN zeroes three shadows and the gain entry, and writes the three -/
  | begins (ack1 ack2 ack3 : Bool) (more : List LogEntry) (e : Env) (acked : Bool) :
      CommandLeaves s .beginInit ((((((s.setShadow .prox 0x00#8).setShadow .ired 0x00#8).setShadow .als 0x00#8).setGfSel
        .fa200).transact
        (.write s.cfg.devAddr7 s.cfg.aProxCfg 0x00#8 ack1 :: .write s.cfg.devAddr7 s.cfg.aIredCfg 0x00#8 ack2 ::
          .write s.cfg.devAddr7 s.cfg.aAlsCfg 0x00#8 ack3 :: more) e).respond (nackFlag acked))
  /-- COLOR_COMP_EN sets the mode -/
  | enablesCc (p : BitVec 1) (new : List LogEntry) (e : Env) (acked : Bool) :
      CommandLeaves s (.colorCompEn p) ((s.enableCc.transact new e).respond (nackFlag acked))
  /-- UPDATE may change the cache -/
  | updates (p a b1 b2 : Half) (new : List LogEntry) (e : Env) (acked : Bool) :
      CommandLeaves s .update ((((s.setProxAls p a).setBlues b1 b2).transact new e).respond (nackFlag acked))
  /-- an on-demand command triggers and polls -/
  | polls (i : Instr) (onDemand : opcodeOf i ∈ onDemandOpcodes) (t0 : Millis) (new : List LogEntry) (e : Env)
      (acked : Bool) (h : Byte) (t : State)
      (loop : PollsTo (((s.setHs .triggered).setT0 t0).transact new e) h (nackFlag acked) t) : CommandLeaves s i t

theorem CommandLeaves.of_fieldWrite {s : State} {i : Instr} {g : GainEntry} {x : Shadow} {mask code : Byte}
    (field : FieldOf s i g x mask code) :
    CommandLeaves s i ((s.setGfSel g).start.fieldWrite x (deviceRegister s.cfg x) mask code).finish := by
  have leaves := CommandLeaves.writesField i g x mask code field (s.env.ackAt 0) [] (s.env.dropAcks 1) (s.env.ackAt 0)
  simpa [Run.fieldWrite_eq, Run.write_eq, Run.finish, State.start, Run.modify, fieldValue, raiseUnlessAcked_zero,
    State.transact] using leaves

theorem CommandLeaves.of_fieldWrite_thresholds {s : State} {i : Instr} {g : GainEntry} {x : Shadow} {mask code : Byte}
    (field : FieldOf s i g x mask code) (topH topL botH botL : Byte) (top bottom : Half) :
    CommandLeaves s i (((s.setGfSel g).start.fieldWrite x (deviceRegister s.cfg x) mask code).writeThresholds
      topH topL botH botL top bottom).finish := by
  have leaves := CommandLeaves.writesField i g x mask code field (s.env.ackAt 0)
  simpa [Run.writeThresholds_eq, Run.fieldWrite_eq, Run.write_eq, Run.finish, State.start, Run.modify, fieldValue,
    raiseUnlessAcked_zero, raiseUnlessAcked_nackFlag, State.transact] using leaves _ _ _

theorem CommandLeaves.of_unlessZero {s t : State} {i : Instr} {a : Half} (fails : a = 0#16 → i.wellFormed = false)
    (passes : a ≠ 0#16 → CommandLeaves s i t) :
    CommandLeaves s i (if a = 0#16 then doneWith s invalidOperand else t) := by
  split
  · next zero => exact .refuses i (fails zero)
  · next passed => exact passes passed

theorem CommandLeaves.of_colorComp {s : State} (p : BitVec 1) : CommandLeaves s (.colorCompEn p)
    ((s.start.write s.cfg.aAlsComp (compensationValue p)).modify State.enableCc).finish := by
  rw [Run.write_eq, State.start, raiseUnlessAcked_zero]
  exact .enablesCc p _ _ _

theorem CommandLeaves.of_execBegin {s t : State} (answers : execBegin s = .next t) : CommandLeaves s .beginInit t := by
  cases answers
  have leaves := CommandLeaves.begins (s := s) (s.env.ackAt 0) (s.env.ackAt 1) (s.env.ackAt 2)
  simpa [Run.write_eq, Run.finish, State.start, Run.modify, State.setShadow, State.setGfSel, raiseUnlessAcked_zero,
    raiseUnlessAcked_nackFlag, State.transact] using leaves _ _ _

/-- Decoding a burst writes the cache and nothing else (R152). -/
theorem State.decodeBurst_eq (s : State) (d : Vector Byte 10) : ∃ p a b1 b2 : Half,
    s.decodeBurst d = (s.setProxAls p a).setBlues b1 b2 := by
  unfold State.decodeBurst
  dsimp only
  split
  · exact ⟨_, _, _, _, rfl⟩
  · exact ⟨pair d[0] d[1], pair d[2] d[3], s.cBlue1, s.cBlue2, rfl⟩

theorem CommandLeaves.of_execUpdate {s t : State} (answers : execUpdate s = .next t) : CommandLeaves s .update t := by
  cases answers
  rw [memRead_eq]
  cases s.env.replyAt 0 with
  | nack => exact .updates s.cProx s.cAls s.cBlue1 s.cBlue2 _ _ false
  | data d =>
    dsimp only
    obtain ⟨p, a, b1, b2, decoded⟩ := State.decodeBurst_eq _ d
    rw [decoded]
    exact .updates p a b1 b2 _ _ true

theorem CommandLeaves.of_onDemand {s : State} {i : Instr} (listed : opcodeOf i ∈ onDemandOpcodes) (h : Byte) :
    CommandLeaves s i (onDemand h s) := by
  unfold onDemand
  rw [onDemandTrigger_eq]
  exact .polls i listed _ _ _ _ h _ (pollLoop_pollsTo _ h _ _)

/-- Every command leaves what its family leaves. -/
theorem CommandLeaves.of_exec {s t : State} {i : Instr} (answers : exec i s = .next t) : CommandLeaves s i t := by
  cases i with
  | beginInit => exact .of_execBegin answers
  | update => exact .of_execUpdate answers
  | setProxRate a =>
    cases (exec_setProxRate_eq a s).symm.trans answers
    exact .of_unlessZero (by rintro rfl; rfl) fun passes => .of_fieldWrite (.proxRate a passes)
  | setIntPersist a =>
    cases (exec_setIntPersist_eq a s).symm.trans answers
    exact .of_unlessZero (by rintro rfl; rfl) fun passes => .of_fieldWrite (.persistence a passes)
  | setAlsRate a =>
    cases (exec_setAlsRate_eq a s).symm.trans answers
    exact .of_unlessZero (by rintro rfl; rfl) fun passes => .of_fieldWrite (.alsRate a passes)
  | proxOffsetEn =>
    cases answers
    exact .of_fieldWrite .offsetOn
  | proxOffsetDis =>
    cases answers
    exact .of_fieldWrite .offsetOff
  | proxIntDis =>
    cases answers
    exact .of_fieldWrite .proxIntOff
  | alsIntDis =>
    cases answers
    refine .of_fieldWrite (.alsIntOff _ ?_)
    cases s.cfg.aintDisPolicy with
    | legacy => exact .inl rfl
    | fixed => exact .inr rfl
  | proxIntEn a b =>
    cases answers
    exact .of_fieldWrite_thresholds (.proxIntOn a b) _ _ _ _ a b
  | alsIntEn a b =>
    cases answers
    exact .of_fieldWrite_thresholds (.alsIntOn a b) _ _ _ _ a b
  | setAdcGain a =>
    cases answers
    exact .of_fieldWrite (.adcGain a)
  | colorCompEn p =>
    cases answers
    exact .of_colorComp p
  | ondemandProx | ondemandAls =>
    cases answers
    exact .of_onDemand (by decide) _
  | getProxRaw | getAlsRaw | getBlue1Raw | getBlue2Raw | getGainFactor | readShProx | readShIred | readShAls | readShInt
  | getStatus =>
    cases answers
    exact .answers _ _ (by decide)

/-! ## A step -/

theorem resumeCommand_pollsTo (c : InFlight) (s : State) : PollsTo s c.addr c.flags (resumeCommand c s) :=
  pollLoop_pollsTo _ _ _ _

/-- What a block that works on a command does, by what it leaves (R85, R87, R175). -/
theorem Works.leaves {s v u : State} (works : Works s v u) :
    (∃ w rest i, Presents s w rest ∧ decode w = .ok i ∧ CommandLeaves (accepted s rest) i u) ∨
    (∃ rest, s.inFlight = none ∧ u = (accepted s rest).respond illegalCmd) ∨
    (∃ c, s.inFlight = some c ∧ PollsTo s c.addr c.flags u) := by
  cases works with
  | accepts w rest i _ presents legal answers => exact .inl ⟨w, rest, i, presents, legal, .of_exec answers⟩
  | rejects w rest e presents => exact .inr (.inl ⟨rest, presents.idle, rfl⟩)
  | resumes c sound flying => exact .inr (.inr ⟨c, flying, resumeCommand_pollsTo c s⟩)

theorem Works.cfg_eq {s v u : State} (works : Works s v u) : v.cfg = s.cfg := by
  cases works <;> rfl

/-- A reset that a command at work meets was next, or right behind the command's word. -/
theorem Works.resetNext_events {s v u : State} (works : Works s v u) (next : resetNext v.env.events = true) :
    resetNext s.env.events = true ∨ resetNext s.env.events.tail = true := by
  cases works with
  | accepts w rest i _ presents => exact .inr (by rw [presents.pending]; exact next)
  | rejects w rest e presents => exact .inr (by rw [presents.pending]; exact next)
  | resumes => exact .inl next

/-- What a step leaves: the state as it was; the reset state; or what the work on a command leaves, but for the events,
where a reset that lies beyond the step has come nearer (log 6). -/
theorem step_leaves {s t : State} (taken : step s = .next t) :
    t = s ∨ ResetTaken s t ∨ ∃ v u e, Works s v u ∧ t = u.setEnv e := by
  obtain ⟨-, rfl | ⟨-, next, rfl⟩ | ⟨v, u, works, ⟨-, rfl⟩ | ⟨n, rest, events, rfl⟩⟩⟩ := step_cases taken
  · exact .inl rfl
  · exact .inr (.inl ⟨.inl next, rfl⟩)
  · exact .inr (.inr ⟨v, t, t.env, works, rfl⟩)
  · rcases v.meetReset_cases u n with ⟨-, cut⟩ | ⟨-, -, nearer⟩ | ⟨-, -, responded⟩
    · refine .inr (.inl ⟨works.resetNext_events (by rw [events]; rfl), ?_⟩)
      rw [cut, State.cutAfter_eq, works.cfg_eq]
    · exact .inr (.inr ⟨v, u, _, works, nearer⟩)
    · exact .inr (.inr ⟨v, u, u.env, works, responded⟩)

end Sys2Proof.Machine
end

section
/-! The statements of spec/10_state.md about who writes which piece of state (R26, R28, R29, R31, R38), each from what a
command, the poll loop and a step leave. -/

namespace Sys2Proof.Machine

open Sys2Proof

/-! ## The registers beside the handshake, `RESULT`, `STICKY` and the port -/

/-- `t` has the shadows, the gain entry, the mode, the cache and the configuration of `s` (R38). -/
structure SameRegisters (s t : State) : Prop where
  shadow : ∀ x, t.shadow x = s.shadow x
  gain : t.gfSel = s.gfSel
  mode : t.ccMode = s.ccMode
  cache : sameCache s t
  cfg : t.cfg = s.cfg

theorem sameCache_refl (s : State) : sameCache s s := ⟨rfl, rfl, rfl, rfl⟩

theorem PollsTo.sameRegisters {s t : State} {h : Byte} {f : Flags} (loop : PollsTo s h f t) : SameRegisters s t := by
  cases loop <;> exact ⟨by simp, rfl, rfl, sameCache_refl s, rfl⟩

/-- The time of the trigger is not the loop's to write (R30). -/
theorem PollsTo.t0_eq {s t : State} {h : Byte} {f : Flags} (loop : PollsTo s h f t) : t.t0 = s.t0 := by
  cases loop <;> rfl

/-! ## Writers of a piece of state (R38) -/

/-- The opcodes of the commands that may write `RESULT` (R32). -/
def resultOpcodes : List Byte :=
  [0x21#8, 0x22#8, 0x23#8, 0x24#8, 0x28#8, 0x29#8, 0x30#8, 0x31#8, 0x32#8, 0x33#8, 0x34#8, 0x35#8]

/-- R38's column "Written by", and R32 for `RESULT`, as StateChangesOnlyByItsWriters says them of a command's opcode. -/
structure WrittenBy (s : State) (o : Byte) (t : State) : Prop where
  shProx : o ∉ [0x01#8, 0x10#8, 0x12#8, 0x13#8] → t.shProx = s.shProx
  shIred : o ∉ [0x01#8] → t.shIred = s.shIred
  shAls : o ∉ [0x01#8, 0x19#8, 0x1A#8] → t.shAls = s.shAls
  shInt : o ∉ [0x11#8, 0x14#8, 0x15#8, 0x16#8, 0x17#8] → t.shInt = s.shInt
  gfSel : o ∉ [0x01#8, 0x19#8] → t.gfSel = s.gfSel
  ccMode : o ∉ [0x18#8] → t.ccMode = s.ccMode
  cache : o ∉ [0x20#8] → sameCache s t
  handshake : o ∉ onDemandOpcodes → t.hsState = s.hsState ∧ t.t0 = s.t0
  result : o ∉ resultOpcodes → t.result = s.result
  cfg : t.cfg = s.cfg

/-- What writes neither the registers nor the handshake nor `RESULT` has written what it may. -/
theorem WrittenBy.of_sameRegisters {s t : State} {o : Byte} (same : SameRegisters s t)
    (handshake : o ∉ onDemandOpcodes → t.hsState = s.hsState ∧ t.t0 = s.t0)
    (result : o ∉ resultOpcodes → t.result = s.result) : WrittenBy s o t where
  shProx _ := same.shadow .prox
  shIred _ := same.shadow .ired
  shAls _ := same.shadow .als
  shInt _ := same.shadow .int
  gfSel _ := same.gain
  ccMode _ := same.mode
  cache _ := same.cache
  handshake := handshake
  result := result
  cfg := same.cfg

theorem CommandLeaves.writtenBy {s t : State} {i : Instr} (leaves : CommandLeaves s i t) : WrittenBy s (opcodeOf i) t := by
  cases leaves with
  | refuses i fails =>
    exact .of_sameRegisters ⟨by simp, rfl, rfl, sameCache_refl s, rfl⟩ (fun _ => ⟨rfl, rfl⟩) fun _ => rfl
  | answers i v reader =>
    have listed : opcodeOf i ∈ resultOpcodes := (by decide : readerOpcodes ⊆ resultOpcodes) reader
    exact .of_sameRegisters ⟨by simp, rfl, rfl, sameCache_refl s, rfl⟩ (fun _ => ⟨rfl, rfl⟩) (absurd listed)
  | polls i onDemand t0 new e acked h _ loop =>
    have listed : opcodeOf i ∈ resultOpcodes := (by decide : onDemandOpcodes ⊆ resultOpcodes) onDemand
    obtain ⟨shadow, gain, mode, cache, cfg⟩ := loop.sameRegisters
    exact .of_sameRegisters ⟨by simpa using shadow, gain, mode, cache, cfg⟩ (absurd onDemand) (absurd listed)
  | writesField i g x mask code field => cases field <;> constructor <;> simp [opcodeOf, sameCache]
  | begins | enablesCc | updates => constructor <;> simp [opcodeOf, sameCache]

/-- Settles O44: of a command by its family, and of a resumed one by the poll loop. -/
theorem stateChangesOnlyByItsWriters : Obligations.StateChangesOnlyByItsWriters := by
  refine ⟨fun i s t answers => ?_, fun s t flying taken => ?_⟩
  · obtain ⟨prox, ired, als, int, gain, mode, cache, handshake, result, cfg⟩ :=
      (CommandLeaves.of_exec answers).writtenBy
    exact ⟨prox, ired, als, int, gain, mode, cache, handshake, result, cfg⟩
  · rcases step_leaves taken with rfl | reset | ⟨v, u, e, works, rfl⟩
    · exact .inr ⟨fun _ => rfl, rfl, rfl, sameCache_refl t, rfl, rfl⟩
    · exact .inl reset
    · rcases works.leaves with ⟨w, rest, i, presents, -⟩ | ⟨rest, idle, -⟩ | ⟨c, -, loop⟩
      · exact absurd presents.idle flying
      · exact absurd idle flying
      · obtain ⟨shadow, gain, mode, cache, cfg⟩ := loop.sameRegisters
        exact .inr ⟨by simpa using shadow, gain, mode, cache, loop.t0_eq, cfg⟩

/-! ## The cache (R29) -/

theorem opcodeOf_eq_update {i : Instr} (opcode : opcodeOf i = 0x20#8) : i = .update := by
  cases i with
  | update => rfl
  | _ => simp [opcodeOf] at opcode

theorem CommandLeaves.sameCache_of_ne_update {s t : State} {i : Instr} (leaves : CommandLeaves s i t)
    (other : i ≠ .update) : sameCache s t :=
  leaves.writtenBy.cache (by simpa using mt opcodeOf_eq_update other)

/-- Settles O28: the writer of the cache is UPDATE, and a step that works on anything else leaves it. -/
theorem onlyUpdateChangesTheCache : Obligations.OnlyUpdateChangesTheCache := by
  refine ⟨fun i s t answers => (CommandLeaves.of_exec answers).sameCache_of_ne_update, fun s t taken noUpdate => ?_⟩
  rcases step_leaves taken with rfl | reset | ⟨v, u, e, works, rfl⟩
  · exact .inr (sameCache_refl t)
  · exact .inl reset
  · rcases works.leaves with ⟨w, rest, i, presents, legal, leaves⟩ | ⟨rest, -, rfl⟩ | ⟨c, -, loop⟩
    · have other : i ≠ .update := by
        rintro rfl
        exact noUpdate presents.idle w (by simp [presents.pending]) legal
      exact .inr (leaves.sameCache_of_ne_update other)
    · exact .inr (sameCache_refl s)
    · exact .inr loop.sameRegisters.cache

/-! ## Colour compensation (R28) -/

/-- COLOR_COMP_EN sets the mode, and every other command leaves it. -/
theorem CommandLeaves.ccMode_eq {s t : State} {i : Instr} (leaves : CommandLeaves s i t) :
    t.ccMode = s.ccMode ∨ ((∃ p, i = .colorCompEn p) ∧ t.ccMode = true) := by
  cases leaves with
  | enablesCc p => exact .inr ⟨⟨p, rfl⟩, rfl⟩
  | polls i onDemand t0 new e acked h _ loop => exact .inl loop.sameRegisters.mode
  | refuses | answers | writesField | begins | updates => exact .inl (by simp)

/-- Settles O45. -/
theorem colourCompensationIsPermanent : Obligations.ColourCompensationIsPermanent := by
  refine ⟨fun s t taken on => ?_, fun i s t answers off on => ?_⟩
  · rcases step_leaves taken with rfl | reset | ⟨v, u, e, works, rfl⟩
    · exact .inr on
    · exact .inl reset
    · rcases works.leaves with ⟨w, rest, i, -, -, leaves⟩ | ⟨rest, -, rfl⟩ | ⟨c, -, loop⟩
      · rcases leaves.ccMode_eq with kept | ⟨-, sets⟩
        · exact .inr (kept.trans on)
        · exact .inr sets
      · exact .inr on
      · exact .inr (loop.sameRegisters.mode.trans on)
  · rcases (CommandLeaves.of_exec answers).ccMode_eq with kept | ⟨colorComp, -⟩
    · simp [kept, off] at on
    · exact colorComp

/-! ## `STICKY` (R31, R201, R205) -/

/-- A command that has completed has put its flags into `STICKY`; one that still polls has not. -/
def Accumulates (s t : State) : Prop :=
  (t.inFlight = none → t.sticky = s.sticky ||| t.rspFlags) ∧ (t.inFlight ≠ none → t.sticky = s.sticky)

theorem Accumulates.respond (s : State) (f : Flags) : Accumulates s (s.respond f) := by
  simp [Accumulates]

theorem PollsTo.accumulates {s t : State} {h : Byte} {f : Flags} (loop : PollsTo s h f t) : Accumulates s t := by
  cases loop <;> simp [Accumulates]

theorem CommandLeaves.accumulates {s t : State} {i : Instr} (leaves : CommandLeaves s i t) : Accumulates s t := by
  cases leaves with
  | polls i onDemand t0 new e acked h _ loop => exact loop.accumulates
  | refuses | answers | writesField | begins | enablesCc | updates => simp [Accumulates]

theorem or_and_left_self {w : Nat} (x y : BitVec w) : (x ||| y) &&& x = x := by
  ext k
  simp +contextual

/-- No bit of `STICKY` is lost by it. -/
theorem Accumulates.keeps {s t : State} (acc : Accumulates s t) : t.sticky &&& s.sticky = s.sticky := by
  obtain ⟨completed, polling⟩ := acc
  cases flight : t.inFlight with
  | none => rw [completed flight, or_and_left_self]
  | some c => rw [polling (by simp [flight]), BitVec.and_self]

/-- Settles O46. -/
theorem stickyAccumulatesAndIsNeverCleared : Obligations.StickyAccumulatesAndIsNeverCleared := by
  refine ⟨fun i s t answers => (CommandLeaves.of_exec answers).accumulates, fun s t taken => ?_⟩
  rcases step_leaves taken with rfl | reset | ⟨v, u, e, works, rfl⟩
  · exact .inr BitVec.and_self
  · exact .inl reset
  · rcases works.leaves with ⟨w, rest, i, -, -, leaves⟩ | ⟨rest, -, rfl⟩ | ⟨c, -, loop⟩
    · exact .inr leaves.accumulates.keeps
    · exact .inr (Accumulates.respond (accepted s rest) illegalCmd).keeps
    · exact .inr loop.accumulates.keeps

/-! ## The shadows are written through (R26) -/

/-- A shadow that a command changes is the one of its field write, or one of the three that BEGIN zeroes. -/
theorem CommandLeaves.written_through {s t : State} {i : Instr} (leaves : CommandLeaves s i t) {x : Shadow}
    (changed : t.shadow x ≠ s.shadow x) : ∃ (new : List LogEntry) (ack : Bool), t.log = s.log ++ new ∧
      LogEntry.write s.cfg.devAddr7 (deviceRegister s.cfg x) (t.shadow x) ack ∈ new := by
  cases leaves with
  | refuses | answers | enablesCc | updates => exact absurd (by simp) changed
  | polls i onDemand t0 new e acked h _ loop => exact absurd (by simpa using loop.sameRegisters.shadow x) changed
  | writesField i g y mask code field ack more e acked =>
    obtain rfl : x = y := by
      by_contra other
      exact changed (by simp [State.setShadow_shadow_other _ _ _ _ other])
    exact ⟨.write s.cfg.devAddr7 (deviceRegister s.cfg x) (fieldValue (s.shadow x) mask code) ack :: more, ack,
      by simp, by simp⟩
  | begins ack1 ack2 ack3 more e acked =>
    cases x with
    | prox => exact ⟨_, ack1, rfl, by simp [deviceRegister]⟩
    | ired => exact ⟨_, ack2, rfl, by simp [deviceRegister]⟩
    | als => exact ⟨_, ack3, rfl, by simp [deviceRegister]⟩
    | int => exact absurd (by simp) changed

/-- Settles O49: the four pairs of the statement are each shadow with its device register. -/
theorem shadowsAreWrittenThrough : Obligations.ShadowsAreWrittenThrough := by
  rintro i s t answers ⟨x, addr⟩ listed changed
  obtain rfl : addr = deviceRegister s.cfg x := by
    cases x <;> simpa [deviceRegister] using listed
  exact (CommandLeaves.of_exec answers).written_through changed

end Sys2Proof.Machine
end

section
/-! The invariant of the host port, the handshake state and the flags (R30, R31, R32, R34, R206). -/

namespace Sys2Proof.Machine

open Sys2Proof

/-! ## What makes the invariant -/

/-- A response makes the invariant by itself, in a state whose handshake has ended (R30, R34). -/
theorem PortInv.respond {s : State} {f : Flags} (settled : s.hsState ≠ .triggered) (legal : f ∈ legalFlags) :
    PortInv (s.respond f) where
  readyIffIdle := by simp
  triggeredIffInFlight := by simpa using settled
  silentInFlight := by simp
  dataIsResult := by simp
  flagsLegal := legal
  flightFlags := by simp
  stickyHolds := by simp [BitVec.or_assoc]

/-- A triggered command that is suspended needs the flags of the last response, and its own, to be in order. -/
theorem PortInv.suspend {s : State} {c : InFlight} (triggered : s.hsState = .triggered) (legal : s.rspFlags ∈ legalFlags)
    (holds : s.sticky ||| s.rspFlags = s.sticky) (flags : c.flags = 0b0000#4 ∨ c.flags = 0b0001#4) :
    PortInv (s.suspend c) where
  readyIffIdle := by simp
  triggeredIffInFlight := by simpa using triggered
  silentInFlight := by simp
  dataIsResult := by simp
  flagsLegal := legal
  flightFlags := by simpa using flags
  stickyHolds := holds

/-- The inputs are no part of it. -/
theorem PortInv.setEnv {s : State} (inv : PortInv s) (e : Env) : PortInv (s.setEnv e) :=
  ⟨inv.readyIffIdle, inv.triggeredIffInFlight, inv.silentInFlight, inv.dataIsResult, inv.flagsLegal, inv.flightFlags,
    inv.stickyHolds⟩

theorem PortInv.settled_of_idle {s : State} (inv : PortInv s) (idle : s.inFlight = none) : s.hsState ≠ .triggered := by
  simpa [idle] using inv.triggeredIffInFlight

/-! ## The flags -/

theorem nackFlag_mem_legalFlags (acked : Bool) : nackFlag acked ∈ legalFlags := by
  cases acked <;> decide

theorem nackFlag_cases (acked : Bool) : nackFlag acked = 0b0000#4 ∨ nackFlag acked = 0b0001#4 := by
  cases acked
  · exact .inr rfl
  · exact .inl rfl

/-- BUS_ERR or nothing stays BUS_ERR or nothing while the command polls. -/
theorem or_nackFlag_cases {f : Flags} (polling : f = 0b0000#4 ∨ f = 0b0001#4) (acked : Bool) :
    f ||| nackFlag acked = 0b0000#4 ∨ f ||| nackFlag acked = 0b0001#4 := by
  rcases polling with rfl | rfl <;> cases acked <;> decide

/-- With TIMEOUT or without it, they are values of R206. -/
theorem or_late_mem_legalFlags {f late : Flags} (polled : f = 0b0000#4 ∨ f = 0b0001#4)
    (ending : late = 0b0000#4 ∨ late = timeoutErr) : f ||| late ∈ legalFlags := by
  rcases polled with rfl | rfl <;> rcases ending with rfl | rfl <;> decide

/-! ## Every work and every step keep the invariant -/

theorem PollsTo.portInv {s t : State} {h : Byte} {f : Flags} (loop : PollsTo s h f t) (triggered : s.hsState = .triggered)
    (legal : s.rspFlags ∈ legalFlags) (holds : s.sticky ||| s.rspFlags = s.sticky)
    (flags : f = 0b0000#4 ∨ f = 0b0001#4) : PortInv t := by
  cases loop with
  | holds new e acked => exact .suspend triggered legal holds (or_nackFlag_cases flags acked)
  | ends new e acked v hs late ending =>
    have polled := or_nackFlag_cases flags acked
    rcases ending with ⟨rfl, rfl⟩ | ⟨rfl, rfl⟩
    · exact .respond (by simp) (or_late_mem_legalFlags polled (.inl rfl))
    · exact .respond (by simp) (or_late_mem_legalFlags polled (.inr rfl))

theorem CommandLeaves.portInv {s t : State} {i : Instr} (leaves : CommandLeaves s i t) (settled : s.hsState ≠ .triggered)
    (legal : s.rspFlags ∈ legalFlags) (holds : s.sticky ||| s.rspFlags = s.sticky) : PortInv t := by
  cases leaves with
  | refuses i fails => exact .respond settled (by decide)
  | answers i v reader => exact .respond settled (by decide)
  | writesField | begins | enablesCc | updates => exact .respond (by simpa using settled) (nackFlag_mem_legalFlags _)
  | polls i onDemand t0 new e acked h _ loop => exact loop.portInv rfl legal holds (nackFlag_cases acked)

theorem Works.keeps_portInv {s v u : State} (works : Works s v u) (inv : PortInv s) : PortInv u := by
  rcases works.leaves with ⟨w, rest, i, presents, -, leaves⟩ | ⟨rest, idle, rfl⟩ | ⟨c, flying, loop⟩
  · exact leaves.portInv (inv.settled_of_idle presents.idle) inv.flagsLegal inv.stickyHolds
  · exact .respond (inv.settled_of_idle idle) (by decide)
  · have triggered : s.hsState = .triggered := inv.triggeredIffInFlight.2 (by simp [flying])
    exact loop.portInv triggered inv.flagsLegal inv.stickyHolds (inv.flightFlags c flying)

/-- Settles O55, along what a step leaves. -/
theorem stepKeepsPortInvariant : Obligations.StepKeepsPortInvariant := by
  intro s t inv taken
  rcases step_leaves taken with rfl | ⟨-, reset⟩ | ⟨v, u, e, works, rfl⟩
  · exact inv
  · rw [reset]
    exact (PortInv.powerOn s.cfg).setEnv t.env
  · exact (works.keeps_portInv inv).setEnv e

end Sys2Proof.Machine
end

section
/-! The invariant of the shadow registers and the gain pairing (R22 to R25, R27): what a field write does to the bits it is
not about, what the codes are made of, and then every command and every step. -/

namespace Sys2Proof.Machine

open Sys2Proof

/-! ## A field write, bits by bits (R110) -/

/-- Bits that are 0 in the shadow and in the code stay 0. -/
theorem fieldValue_extract_eq_zero {old mask code : Byte} {k n : Nat} (clear : old.extractLsb' k n = 0#n)
    (unset : code.extractLsb' k n = 0#n) : (fieldValue old mask code).extractLsb' k n = 0#n := by
  simp [fieldValue, BitVec.extractLsb'_or, BitVec.extractLsb'_and, clear, unset]

/-- Bits outside the mask and the code stay. -/
theorem fieldValue_extract_of_unmasked {old mask code : Byte} {k n : Nat}
    (kept : (~~~mask).extractLsb' k n = BitVec.allOnes n) (unset : code.extractLsb' k n = 0#n) :
    (fieldValue old mask code).extractLsb' k n = old.extractLsb' k n := by
  simp [fieldValue, BitVec.extractLsb'_or, BitVec.extractLsb'_and, kept, unset]

/-- Bits of the mask are the code's. -/
theorem fieldValue_extract_of_masked {old mask code : Byte} {k n : Nat} (masked : (~~~mask).extractLsb' k n = 0#n) :
    (fieldValue old mask code).extractLsb' k n = code.extractLsb' k n := by
  simp [fieldValue, BitVec.extractLsb'_or, BitVec.extractLsb'_and, masked]

theorem fieldValue_and (old mask code m : Byte) :
    fieldValue old mask code &&& m = (old &&& m &&& ~~~mask) ||| (code &&& m) := by
  rw [fieldValue, BitVec.and_or_distrib_right, BitVec.and_assoc, BitVec.and_comm (~~~mask), ← BitVec.and_assoc]

theorem fieldValue_and_eq_zero {old mask code m : Byte} (clear : old &&& m = 0#8) (unset : code &&& m = 0#8) :
    fieldValue old mask code &&& m = 0#8 := by
  simp [fieldValue_and, clear, unset]

/-- Clearing a mask that is disjoint from `m` keeps what is in `m`. -/
theorem and_not_of_disjoint {x m mask : Byte} (disjoint : m &&& mask = 0#8) : x &&& m &&& ~~~mask = x &&& m := by
  have bitwise (k : Nat) : (m.getLsbD k && mask.getLsbD k) = false := by
    simpa using congrArg (BitVec.getLsbD · k) disjoint
  ext k inside
  have apart := bitwise k
  simp only [BitVec.getLsbD_eq_getElem inside] at apart
  grind

theorem fieldValue_and_of_disjoint {old mask code m : Byte} (disjoint : m &&& mask = 0#8) (unset : code &&& m = 0#8) :
    fieldValue old mask code &&& m = old &&& m := by
  rw [fieldValue_and, and_not_of_disjoint disjoint, unset, BitVec.or_zero]

theorem fieldValue_and_mask (old mask code : Byte) : fieldValue old mask code &&& mask = code &&& mask := by
  simp [fieldValue_and, BitVec.and_assoc]

/-! ## An enable pair (R25) -/

/-- Neither bit of the pair is set, or both are. -/
def WholePair (m v : Byte) : Prop := v &&& m = 0x00#8 ∨ v &&& m = m

/-- A field that has no bit of the pair leaves the pair. -/
theorem WholePair.fieldValue_of_disjoint {m old mask code : Byte} (whole : WholePair m old) (disjoint : m &&& mask = 0#8)
    (unset : code &&& m = 0#8) : WholePair m (fieldValue old mask code) := by
  rwa [WholePair, fieldValue_and_of_disjoint disjoint unset]

/-- The pair's own field sets both bits or clears both. -/
theorem WholePair.fieldValue_same {m old code : Byte} (both : code = m ∨ code = 0x00#8) :
    WholePair m (fieldValue old m code) := by
  rw [WholePair, fieldValue_and_mask]
  rcases both with rfl | rfl
  · exact .inr BitVec.and_self
  · exact .inl BitVec.zero_and

/-- Where the pair has no bit, neither of its two codes has one. -/
theorem pairCode_and {m code x : Byte} (both : code = m ∨ code = 0x00#8) (clear : m &&& x = 0#8) : code &&& x = 0#8 := by
  rcases both with rfl | rfl
  · exact clear
  · exact BitVec.zero_and

/-! ## The masks and the codes -/

theorem clearOfPersistence_and {m : Byte} (clear : clearOfPersistence m = true) : m &&& 0xE0#8 = 0#8 := by
  simpa [clearOfPersistence] using clear

/-- What of R7 the shadow invariant rests on, beside the gain code of entry 0. -/
theorem masks_apart_of_wellFormed {c : Cfg} (sound : c.wellFormed = true) :
    c.pintMask &&& 0xE0#8 = 0#8 ∧ c.aintMask &&& 0xE0#8 = 0#8 ∧ c.pintMask &&& c.aintMask = 0#8 := by
  simp only [Cfg.wellFormed, Bool.and_eq_true, beq_iff_eq] at sound
  obtain ⟨⟨⟨⟨⟨⟨⟨-, -⟩, pint⟩, aint⟩, apart⟩, -⟩, -⟩, -⟩ := sound
  exact ⟨clearOfPersistence_and pint, clearOfPersistence_and aint, apart⟩

theorem pRateCode_lt {a : Half} (passes : a ≠ 0#16) : pRateCode a < 16 := by
  have nonzero : a.toNat ≠ 0 := by simpa [← BitVec.toNat_inj] using passes
  exact (Nat.log2_lt (by omega)).2 (by omega)

theorem codeByte_extract_of_lt_16 {n : Nat} (small : n < 16) : (codeByte n).extractLsb' 4 4 = 0#4 := by
  revert n
  decide

theorem codeByte_extract_of_lt_8 {n : Nat} (small : n < 8) :
    (codeByte n).extractLsb' 5 3 = 0#3 ∧ (codeByte n).extractLsb' 3 2 = 0#2 := by
  revert n
  decide

theorem gainField_extract (g : BitVec 2) :
    (g.setWidth 8 <<< 3).extractLsb' 5 3 = 0#3 ∧ (g.setWidth 8 <<< 3).extractLsb' 3 2 = g := by
  revert g
  decide

/-- A code in bits 7:5 has no bit elsewhere: a check of all bytes. -/
theorem shiftLeft_five_and (x : Byte) : x <<< 5 &&& 0xE0#8 = x <<< 5 := by
  revert x
  decide

theorem shiftLeft_five_and_of_clear {m : Byte} (clear : m &&& 0xE0#8 = 0#8) (x : Byte) : x <<< 5 &&& m = 0#8 := by
  rw [← shiftLeft_five_and, BitVec.and_assoc, BitVec.and_comm _ m, clear, BitVec.and_zero]

/-- The bits of `SH.INT` that have a name (R25): the persistence field and the two pairs. -/
def namedInt (c : Cfg) : Byte := 0xE0#8 ||| c.pintMask ||| c.aintMask

theorem and_not_namedInt {x : Byte} {c : Cfg} (named : x &&& namedInt c = x) : x &&& ~~~namedInt c = 0#8 := by
  rw [← named, BitVec.and_assoc]
  simp

theorem pintMask_named (c : Cfg) : c.pintMask &&& namedInt c = c.pintMask := by
  unfold namedInt
  ext k
  grind

theorem aintMask_named (c : Cfg) : c.aintMask &&& namedInt c = c.aintMask := by
  unfold namedInt
  ext k
  grind

theorem shiftLeft_five_named (c : Cfg) (x : Byte) : x <<< 5 &&& namedInt c = x <<< 5 := by
  rw [← shiftLeft_five_and, namedInt]
  ext k
  grind

/-! ## What keeps the invariant -/

/-- The invariant speaks of the shadows, the gain entry and the configuration only. -/
theorem ShadowInv.of_same {s t : State} (inv : ShadowInv s) (shadow : ∀ x, t.shadow x = s.shadow x)
    (gain : t.gfSel = s.gfSel) (cfg : t.cfg = s.cfg) : ShadowInv t := by
  have prox : t.shProx = s.shProx := shadow .prox
  have ired : t.shIred = s.shIred := shadow .ired
  have als : t.shAls = s.shAls := shadow .als
  have int : t.shInt = s.shInt := shadow .int
  constructor
  all_goals simp only [prox, ired, als, int, gain, cfg]
  exacts [inv.proxUnnamed, inv.iredZero, inv.alsUnnamed, inv.intUnnamed, inv.pintPair, inv.aintPair, inv.gainPaired]

theorem ShadowInv.setEnv {s : State} (inv : ShadowInv s) (e : Env) : ShadowInv (s.setEnv e) :=
  inv.of_same (by simp) rfl rfl

theorem ShadowInv.setProx {s : State} (inv : ShadowInv s) {v : Byte} (unnamed : v.extractLsb' 4 4 = 0#4) :
    ShadowInv (s.setShadow .prox v) :=
  { inv with proxUnnamed := unnamed }

/-- `SH.ALS` and the gain entry change together (R27). -/
theorem ShadowInv.setAls {s : State} (inv : ShadowInv s) {v : Byte} {g : GainEntry} (unnamed : v.extractLsb' 5 3 = 0#3)
    (paired : v.extractLsb' 3 2 = gainCode s.cfg g) : ShadowInv ((s.setGfSel g).setShadow .als v) :=
  { inv with alsUnnamed := unnamed, gainPaired := paired }

theorem ShadowInv.setInt {s : State} (inv : ShadowInv s) {v : Byte} (unnamed : v &&& ~~~namedInt s.cfg = 0#8)
    (pint : WholePair s.cfg.pintMask v) (aint : WholePair s.cfg.aintMask v) : ShadowInv (s.setShadow .int v) :=
  { inv with intUnnamed := unnamed, pintPair := pint, aintPair := aint }

/-- A field of `SH.PROX` whose code stays below bit 4 (R22). -/
theorem ShadowInv.proxField {s : State} (inv : ShadowInv s) (mask : Byte) {code : Byte}
    (low : code.extractLsb' 4 4 = 0#4) : ShadowInv (s.setShadow .prox (fieldValue s.shProx mask code)) :=
  inv.setProx (fieldValue_extract_eq_zero inv.proxUnnamed low)

/-- The persistence field is clear of both pairs (R7, R113). -/
theorem ShadowInv.persistenceField {s : State} (inv : ShadowInv s) (sound : s.cfg.wellFormed = true) (code : Byte) :
    ShadowInv (s.setShadow .int (fieldValue s.shInt 0xE0#8 (code <<< 5))) := by
  obtain ⟨pint, aint, -⟩ := masks_apart_of_wellFormed sound
  refine inv.setInt (fieldValue_and_eq_zero inv.intUnnamed (and_not_namedInt (shiftLeft_five_named _ _))) ?_ ?_
  · exact .fieldValue_of_disjoint inv.pintPair pint (shiftLeft_five_and_of_clear pint code)
  · exact .fieldValue_of_disjoint inv.aintPair aint (shiftLeft_five_and_of_clear aint code)

/-- Setting or clearing the proximity pair leaves the ALS pair (R7, R118, R119). -/
theorem ShadowInv.pintField {s : State} (inv : ShadowInv s) (sound : s.cfg.wellFormed = true) {code : Byte}
    (both : code = s.cfg.pintMask ∨ code = 0x00#8) :
    ShadowInv (s.setShadow .int (fieldValue s.shInt s.cfg.pintMask code)) := by
  obtain ⟨-, -, apart⟩ := masks_apart_of_wellFormed sound
  have named : code &&& ~~~namedInt s.cfg = 0#8 := pairCode_and both (and_not_namedInt (pintMask_named s.cfg))
  refine inv.setInt (fieldValue_and_eq_zero inv.intUnnamed named) (.fieldValue_same both) ?_
  exact .fieldValue_of_disjoint inv.aintPair (by rw [BitVec.and_comm, apart]) (pairCode_and both apart)

/-- Setting or clearing the ALS pair leaves the proximity pair (R7, R120, R121). -/
theorem ShadowInv.aintField {s : State} (inv : ShadowInv s) (sound : s.cfg.wellFormed = true) {code : Byte}
    (both : code = s.cfg.aintMask ∨ code = 0x00#8) :
    ShadowInv (s.setShadow .int (fieldValue s.shInt s.cfg.aintMask code)) := by
  obtain ⟨-, -, apart⟩ := masks_apart_of_wellFormed sound
  have named : code &&& ~~~namedInt s.cfg = 0#8 := pairCode_and both (and_not_namedInt (aintMask_named s.cfg))
  refine inv.setInt (fieldValue_and_eq_zero inv.intUnnamed named) ?_ (.fieldValue_same both)
  exact .fieldValue_of_disjoint inv.pintPair apart (pairCode_and both (by rw [BitVec.and_comm, apart]))

/-- The rate field of `SH.ALS` is clear of the gain field (R24, R126). -/
theorem ShadowInv.alsRateField {s : State} (inv : ShadowInv s) (a : Half) :
    ShadowInv (s.setShadow .als (fieldValue s.shAls 0x07#8 (codeByte (aRateCode a)))) := by
  obtain ⟨unnamed, gain⟩ := codeByte_extract_of_lt_8 (n := aRateCode a) (by unfold aRateCode; omega)
  refine inv.setAls (g := s.gfSel) (fieldValue_extract_eq_zero inv.alsUnnamed unnamed) ?_
  rw [fieldValue_extract_of_unmasked (by decide) gain, inv.gainPaired]

/-- The gain field takes the code of the entry that is selected with it (R27, R124). -/
theorem ShadowInv.gainField {s : State} (inv : ShadowInv s) (g : GainEntry) :
    ShadowInv ((s.setGfSel g).setShadow .als (fieldValue s.shAls 0x18#8 ((gainCode s.cfg g).setWidth 8 <<< 3))) := by
  obtain ⟨unnamed, gain⟩ := gainField_extract (gainCode s.cfg g)
  refine inv.setAls (fieldValue_extract_eq_zero inv.alsUnnamed unnamed) ?_
  rw [fieldValue_extract_of_masked (by decide), gain]

/-- BEGIN leaves three shadows 0 and entry 0 selected, whose code is 0 (R7, R100). -/
theorem ShadowInv.begun {s : State} (inv : ShadowInv s) (sound : s.cfg.wellFormed = true) : ShadowInv
    ((((s.setShadow .prox 0x00#8).setShadow .ired 0x00#8).setShadow .als 0x00#8).setGfSel .fa200) :=
  { inv with
    proxUnnamed := by simp
    iredZero := rfl
    alsUnnamed := by simp
    gainPaired := by simp [gainCode, gainCode200_of_wellFormed sound] }

/-! ## Every command, every work and every step keep the invariant -/

/-- The field write of a command, whichever it is. -/
theorem FieldOf.keeps_shadowInv {s : State} {i : Instr} {g : GainEntry} {x : Shadow} {mask code : Byte}
    (field : FieldOf s i g x mask code) (inv : ShadowInv s) (sound : s.cfg.wellFormed = true) :
    ShadowInv ((s.setGfSel g).setShadow x (fieldValue (s.shadow x) mask code)) := by
  cases field with
  | proxRate a passes => exact inv.proxField _ (codeByte_extract_of_lt_16 (pRateCode_lt passes))
  | offsetOn | offsetOff => exact inv.proxField _ (by decide)
  | persistence a passes => exact inv.persistenceField sound _
  | proxIntOn a b => exact inv.pintField sound (.inl rfl)
  | proxIntOff => exact inv.pintField sound (.inr rfl)
  | alsIntOn a b => exact inv.aintField sound (.inl rfl)
  | alsIntOff _ policy => exact inv.aintField sound policy
  | adcGain a => exact inv.gainField (gainSel a)
  | alsRate a passes => exact inv.alsRateField a

theorem PollsTo.keeps_shadowInv {s t : State} {h : Byte} {f : Flags} (loop : PollsTo s h f t) (inv : ShadowInv s) :
    ShadowInv t :=
  inv.of_same loop.sameRegisters.shadow loop.sameRegisters.gain loop.sameRegisters.cfg

theorem CommandLeaves.keeps_shadowInv {s t : State} {i : Instr} (leaves : CommandLeaves s i t) (inv : ShadowInv s)
    (sound : s.cfg.wellFormed = true) : ShadowInv t := by
  cases leaves with
  | refuses | answers | enablesCc | updates => exact inv.of_same (by simp) rfl rfl
  | writesField i g x mask code field => exact (field.keeps_shadowInv inv sound).of_same (by simp) rfl rfl
  | begins => exact (inv.begun sound).of_same (by simp) rfl rfl
  | polls i onDemand t0 new e acked h _ loop => exact loop.keeps_shadowInv (inv.of_same (by simp) rfl rfl)

theorem Works.keeps_shadowInv {s v u : State} (works : Works s v u) (inv : ShadowInv s) : ShadowInv u := by
  have started (rest : List HostEvent) : ShadowInv (accepted s rest) := { inv with }
  rcases works.leaves with ⟨w, rest, i, presents, -, leaves⟩ | ⟨rest, -, rfl⟩ | ⟨c, -, loop⟩
  · exact leaves.keeps_shadowInv (started rest) presents.sound
  · exact (started rest).of_same (by simp) rfl rfl
  · exact loop.keeps_shadowInv inv

/-- Settles O54, along what a step leaves; the configuration of the step is sound, or it would be refused (R7). -/
theorem stepKeepsShadowInvariant : Obligations.StepKeepsShadowInvariant := by
  intro s t inv taken
  obtain ⟨sound, -⟩ := step_cases taken
  rcases step_leaves taken with rfl | ⟨-, reset⟩ | ⟨v, u, e, works, rfl⟩
  · exact inv
  · rw [reset]
    exact (ShadowInv.powerOn sound).setEnv t.env
  · exact (works.keeps_shadowInv inv).setEnv e

end Sys2Proof.Machine
end

section
/-! What a command does to the log and to the inputs (spec/20_memory.md R58, R60, R67): it appends entries, and draws one
input for each, of the entry's kind. -/

namespace Sys2Proof.Machine

open Sys2Proof

/-! ## Entries and the inputs they use up -/

theorem Env.dropEntries_append (e : Env) (first second : List LogEntry) :
    e.dropEntries (first ++ second) = (e.dropEntries first).dropEntries second :=
  List.foldl_append

/-- Every entry is a write, a read or a clock sample, and one of them only (R67). -/
theorem length_eq_sum_of_kinds (new : List LogEntry) :
    (new.filter LogEntry.isWrite).length + (new.filter LogEntry.isRead).length +
      (new.filterMap LogEntry.sample?).length = new.length := by
  induction new with
  | nil => rfl
  | cons x new ih =>
    cases x <;> simp [LogEntry.isWrite, LogEntry.isRead, LogEntry.sample?, List.filter_cons, List.filterMap_cons] <;> omega

/-- The clock samples, counted by any test that picks them out. -/
theorem length_filterMap_sample {isClock : LogEntry → Bool} (picks : ∀ x, isClock x = x.sample?.isSome)
    (new : List LogEntry) : (new.filterMap LogEntry.sample?).length = (new.filter isClock).length := by
  rw [List.length_filterMap_eq_countP, List.countP_eq_length_filter, funext picks]

/-! ## A command in the course of which the log grows and inputs are drawn -/

/-- From `s` to `t` the log has grown at its end, and the inputs are those of `s` without the ones that the new entries
have used up (R58, R60, R67). -/
def AppendsAndDraws (s t : State) : Prop := ∃ new : List LogEntry, t.log = s.log ++ new ∧ t.env = s.env.dropEntries new

theorem AppendsAndDraws.refl (s : State) : AppendsAndDraws s s :=
  ⟨[], by simp, by simp⟩

section Operations

variable {s t u : State} {r : Run}

/-- Whatever changes neither the log nor the inputs. -/
theorem AppendsAndDraws.of_same (so : AppendsAndDraws s t) (log : u.log = t.log) (env : u.env = t.env) :
    AppendsAndDraws s u := by
  unfold AppendsAndDraws
  rwa [log, env]

/-- One transaction or clock sample more. -/
theorem AppendsAndDraws.entry (so : AppendsAndDraws s t) (x : LogEntry) (log : u.log = t.log ++ [x])
    (env : u.env = t.env.dropEntry x) : AppendsAndDraws s u := by
  obtain ⟨new, logSo, envSo⟩ := so
  refine ⟨new ++ [x], ?_, ?_⟩
  · rw [log, logSo, List.append_assoc]
  · rw [env, envSo, Env.dropEntries_append, Env.dropEntries_cons, Env.dropEntries_nil]

theorem AppendsAndDraws.setShadow (so : AppendsAndDraws s t) (x : Shadow) (v : Byte) :
    AppendsAndDraws s (t.setShadow x v) :=
  so.of_same (by simp) (by simp)

theorem AppendsAndDraws.setGfSel (so : AppendsAndDraws s t) (g : GainEntry) : AppendsAndDraws s (t.setGfSel g) :=
  so.of_same rfl rfl

theorem AppendsAndDraws.setHs (so : AppendsAndDraws s t) (h : HsState) : AppendsAndDraws s (t.setHs h) :=
  so.of_same rfl rfl

/-! ### The ports -/

theorem AppendsAndDraws.memRead (so : AppendsAndDraws s t) (addr : Byte) (n : Nat) :
    AppendsAndDraws s (memRead addr n t).2 :=
  so.entry _ rfl rfl

theorem AppendsAndDraws.clockNow (so : AppendsAndDraws s t) : AppendsAndDraws s (clockNow t).2 :=
  so.entry _ rfl rfl

/-! ### Inside a command -/

theorem AppendsAndDraws.modify {g : State → State} (so : AppendsAndDraws s (g r.state)) :
    AppendsAndDraws s (r.modify g).state :=
  so

theorem AppendsAndDraws.write (so : AppendsAndDraws s r.state) (addr v : Byte) :
    AppendsAndDraws s (r.write addr v).state :=
  so.entry _ rfl rfl

theorem AppendsAndDraws.fieldWrite (so : AppendsAndDraws s r.state) (x : Shadow) (addr mask code : Byte) :
    AppendsAndDraws s (r.fieldWrite x addr mask code).state := by
  rw [Run.fieldWrite_eq]
  exact .write (so.setShadow x _) _ _

theorem AppendsAndDraws.writeThresholds (so : AppendsAndDraws s r.state) (topH topL botH botL : Byte)
    (top bottom : Half) : AppendsAndDraws s (r.writeThresholds topH topL botH botL top bottom).state :=
  (((so.write _ _).write _ _).write _ _).write _ _

/-- The response uses up no input (R67, R87). -/
theorem AppendsAndDraws.respond (so : AppendsAndDraws s t) (f : Flags) : AppendsAndDraws s (t.respond f) :=
  so.of_same rfl rfl

/-- The done stage of a command (R87). -/
theorem AppendsAndDraws.finish (so : AppendsAndDraws s r.state) : AppendsAndDraws s r.finish :=
  so.respond r.flags

/-! ### The on-demand handshake (R171) -/

theorem AppendsAndDraws.finalRead (so : AppendsAndDraws s r.state) (h : Byte) : AppendsAndDraws s (r.finalRead h) := by
  unfold Run.finalRead
  dsimp only
  split
  · exact (so.memRead h 2).respond _
  · exact (so.memRead h 2).of_same rfl rfl

theorem AppendsAndDraws.afterPoll (so : AppendsAndDraws s t) : AppendsAndDraws s (afterPoll t) :=
  so.memRead _ _

theorem AppendsAndDraws.afterRound (so : AppendsAndDraws s t) : AppendsAndDraws s (afterRound t) :=
  so.afterPoll.clockNow

/-- By induction on the rounds: a round is a poll and a clock sample, and the loop ends with one read or with none. -/
theorem AppendsAndDraws.pollLoop (k : Nat) (so : AppendsAndDraws s r.state) (h : Byte) :
    AppendsAndDraws s (pollLoop k h r) := by
  induction k generalizing r with
  | zero => exact so.of_same rfl rfl
  | succ k ih =>
    rw [pollLoop_succ]
    split
    · exact (so.afterPoll.setHs .ready).finalRead (r := ⟨_, _⟩) h
    · split
      · exact (so.afterRound.setHs .timedOut).finalRead (r := ⟨_, _⟩) h
      · exact ih so.afterRound

/-- The trigger of a handshake is a write and a clock sample. -/
theorem AppendsAndDraws.onDemandTrigger (s : State) : AppendsAndDraws s (onDemandTrigger s).state :=
  have written : AppendsAndDraws s ((s.setHs .triggered).start.write s.cfg.aCmd s.cfg.cmdOndemand).state :=
    .write (r := (s.setHs .triggered).start) ((AppendsAndDraws.refl s).setHs .triggered) _ _
  written.clockNow.of_same rfl rfl

theorem AppendsAndDraws.onDemand (s : State) (h : Byte) : AppendsAndDraws s (onDemand h s) :=
  (AppendsAndDraws.onDemandTrigger s).pollLoop _ h

end Operations

/-! ## Every command -/

/-- The operand check of R88: a refused operand is answered with no transaction. -/
theorem AppendsAndDraws.unlessZero {s t : State} (a : Half) (so : AppendsAndDraws s t) :
    AppendsAndDraws s (if a = 0#16 then doneWith s invalidOperand else t) := by
  split
  · exact (AppendsAndDraws.refl s).respond _
  · exact so

/-- UPDATE makes one burst read, and decoding it touches neither the log nor the inputs (R152). -/
theorem AppendsAndDraws.execUpdate {s t : State} (answers : execUpdate s = .next t) : AppendsAndDraws s t := by
  have read : AppendsAndDraws s (Machine.memRead s.cfg.measBase (burstLen s.ccMode) s).2 :=
    (AppendsAndDraws.refl s).memRead _ _
  cases answers
  split
  · exact read.respond _
  · next d _ =>
    obtain ⟨p, a, b1, b2, decoded⟩ := State.decodeBurst_eq (Machine.memRead s.cfg.measBase (burstLen s.ccMode) s).2 d
    rw [decoded]
    exact read.of_same rfl rfl

/-- BEGIN makes five writes; the shadows and the gain entry it zeroes between them are neither log nor input (R100). -/
theorem AppendsAndDraws.execBegin {s t : State} (answers : execBegin s = .next t) : AppendsAndDraws s t := by
  cases answers
  refine .finish (.write (.write (.write (.modify (.setGfSel (.setShadow ?_ _ _) _)) _ _) _ _) _ _)
  exact .write (.modify (.setShadow (.write (.modify (.setShadow (.refl s) _ _)) _ _) _ _)) _ _

theorem AppendsAndDraws.of_exec {s t : State} {i : Instr} (answers : exec i s = .next t) : AppendsAndDraws s t := by
  have start : AppendsAndDraws s s.start.state := .refl s
  cases i with
  | beginInit => exact .execBegin answers
  | update => exact .execUpdate answers
  | setProxRate a =>
    cases (exec_setProxRate_eq a s).symm.trans answers
    exact .unlessZero a (start.fieldWrite _ _ _ _).finish
  | setIntPersist a =>
    cases (exec_setIntPersist_eq a s).symm.trans answers
    exact .unlessZero a (start.fieldWrite _ _ _ _).finish
  | setAlsRate a =>
    cases (exec_setAlsRate_eq a s).symm.trans answers
    exact .unlessZero a (start.fieldWrite _ _ _ _).finish
  | proxOffsetEn | proxOffsetDis | proxIntDis | alsIntDis =>
    cases answers
    exact (start.fieldWrite _ _ _ _).finish
  | proxIntEn a b | alsIntEn a b =>
    cases answers
    exact ((start.fieldWrite _ _ _ _).writeThresholds _ _ _ _ a b).finish
  | colorCompEn p =>
    cases answers
    exact .finish (.modify ((start.write _ _).of_same rfl rfl))
  | setAdcGain a =>
    cases answers
    exact .finish (.fieldWrite (.modify (start.setGfSel _)) _ _ _ _)
  | ondemandProx | ondemandAls =>
    cases answers
    exact .onDemand s _
  | getProxRaw | getAlsRaw | getBlue1Raw | getBlue2Raw | getGainFactor | readShProx | readShIred | readShAls | readShInt
  | getStatus =>
    cases answers
    exact start.of_same rfl rfl

/-- Settles O48: the inputs that a command's entries use up, counted by the kinds of the entries. -/
theorem commandsAppendAndDraw : Obligations.CommandsAppendAndDraw := by
  intro i s t answers
  obtain ⟨new, log, env⟩ := AppendsAndDraws.of_exec answers
  exact ⟨new, _, _, _, log, env.trans (s.env.dropEntries_eq new), rfl, length_eq_sum_of_kinds new,
    length_filterMap_sample (fun x => by cases x <;> rfl) new⟩

end Sys2Proof.Machine
end

section
/-! The opcode map and the round trip (spec/30_encoding.md R81 to R84, R89): the row of a command, the command of a row, and
the words that decode, which are those that pass the test of a row. -/

namespace Sys2Proof

/-! ## The row of a command, and the command of a row (R82, R83) -/

/-- The map has a row for the opcode of every command, and that row builds the command from its operands. -/
theorem rowOf_opcodeOf (i : Instr) :
    ∃ r, rowOf (opcodeOf i) = some r ∧ r.use = useOf i ∧ r.build (fieldA i) (fieldB i) = i := by
  cases i with
  | colorCompEn p => exact ⟨_, rfl, rfl, by simp [fieldA]⟩
  | _ => exact ⟨_, rfl, rfl, rfl⟩

/-- The operand fields of a command are 0 wherever its row does not use them. -/
theorem unusedBitsClear_fields (i : Instr) : unusedBitsClear (useOf i) (fieldA i) (fieldB i) = true := by
  cases i with
  | colorCompEn p => simp [useOf, fieldA, fieldB, unusedBitsClear, periodFlag_clears_upper_bits]
  | _ => rfl

/-- An operand of which only bit 0 may be 1 is that bit (R82: COLOR_COMP_EN). -/
theorem setWidth_one_setWidth {a : Half} (clear : a.extractLsb' 1 15 = 0#15) : (a.setWidth 1).setWidth 16 = a := by
  ext k hk
  rcases k with _ | k
  · simp [BitVec.getLsbD_eq_getElem]
  · have upper := congrArg (fun x => x.getLsbD k) clear
    simpa [Nat.add_comm, BitVec.getLsbD_eq_getElem, hk, show k < 15 by omega] using upper.symm

/-- The command that a row builds has the row's opcode and, the unused bits being clear, the operands it is built from: by
cases on the rows of the map. -/
theorem fields_of_build {o : Byte} {r : Row} {a b : Half} (row : rowOf o = some r)
    (clear : unusedBitsClear r.use a b = true) :
    opcodeOf (r.build a b) = o ∧ fieldA (r.build a b) = a ∧ fieldB (r.build a b) = b := by
  unfold rowOf at row
  split at row <;> cases row
  all_goals simp_all [unusedBitsClear, opcodeOf, fieldA, fieldB, BitVec.toNat_eq, setWidth_one_setWidth]

/-! ## The words that decode (R84) -/

/-- A word decodes if and only if the map has a row for its opcode and the word passes the test of that row. -/
theorem decode_eq_ok_iff_row (w : CmdWord) (i : Instr) : decode w = .ok i ↔
    ∃ r, rowOf (opcOf w) = some r ∧ w &&& maskOf r.use = (opcOf w).setWidth 64 ∧
      r.build (operandA w) (operandB w) = i := by
  simp only [and_maskOf_eq_iff_fields, true_and]
  unfold decode
  cases rowOf (opcOf w) with
  | none => simp
  | some r =>
    by_cases reserved : rsv0Of w = 0#8 ∧ rsv1Of w = 0#16
    · obtain ⟨rsv0, rsv1⟩ := reserved
      by_cases clear : unusedBitsClear r.use (operandA w) (operandB w) = true <;> simp [rsv0, rsv1, clear]
    · rcases not_and_or.1 reserved with rsv0 | rsv1
      · simp [rsv0]
      · simp [rsv1]

/-- A word that passes the test of a row has the row's opcode and decodes to the command that the row builds. -/
theorem decode_of_matches {o : Byte} {r : Row} {w : CmdWord} (row : rowOf o = some r)
    (passes : w &&& maskOf r.use = o.setWidth 64) :
    opcOf w = o ∧ ∃ i, decode w = .ok i ∧ opcodeOf i = o := by
  obtain ⟨rfl, -, -, clear⟩ := (and_maskOf_eq_iff_fields w r.use o).1 passes
  obtain ⟨opcode, -⟩ := fields_of_build row clear
  exact ⟨rfl, _, (decode_eq_ok_iff_row w _).2 ⟨r, row, passes, rfl⟩, opcode⟩

/-- A word that decodes passes the test of the row that its command's opcode has. -/
theorem matches_of_decode {w : CmdWord} {i : Instr} (legal : decode w = .ok i) :
    ∃ r, rowOf (opcodeOf i) = some r ∧ w &&& maskOf r.use = (opcodeOf i).setWidth 64 := by
  obtain ⟨r, row, passes, rfl⟩ := (decode_eq_ok_iff_row w i).1 legal
  obtain ⟨-, -, -, clear⟩ := (and_maskOf_eq_iff_fields _ _ _).1 passes
  obtain ⟨opcode, -⟩ := fields_of_build row clear
  rw [opcode]
  exact ⟨r, row, passes⟩

/-! ## The round trip (R84, R89) -/

/-- Settles O1: the word of a command passes the test of the command's row, which builds the command again. -/
theorem decodeOfEncodeIsTheCommand : Obligations.DecodeOfEncodeIsTheCommand := by
  intro i
  obtain ⟨r, row, use, build⟩ := rowOf_opcodeOf i
  have passes : encode i &&& maskOf r.use = (opcodeOf i).setWidth 64 := by
    rw [use]
    exact assembleWord_matches _ _ _ _ (unusedBitsClear_fields i)
  exact (decode_eq_ok_iff_row _ i).2 ⟨r, by simpa [encode] using row, by simpa [encode] using passes,
    by simpa [encode] using build⟩

/-- Settles O2: the fields of the command are those of the word, and the word's reserved fields are 0. -/
theorem encodeOfDecodeIsTheWord : Obligations.EncodeOfDecodeIsTheWord := by
  intro w i legal
  obtain ⟨r, row, passes, rfl⟩ := (decode_eq_ok_iff_row w i).1 legal
  obtain ⟨-, rsv0, rsv1, clear⟩ := (and_maskOf_eq_iff_fields _ _ _).1 passes
  obtain ⟨opcode, a, b⟩ := fields_of_build row clear
  rw [encode, opcode, a, b, assembleWord_of_fields w rsv0 rsv1]

/-- The words that decode to a command are one word. -/
theorem decode_eq_ok_iff_encode (w : CmdWord) (i : Instr) : decode w = .ok i ↔ encode i = w := by
  constructor
  · exact encodeOfDecodeIsTheWord w i
  · rintro rfl
    exact decodeOfEncodeIsTheCommand i

/-- Settles O4: each word is the one that the encoder gives. -/
theorem sampleWordsDecode : Obligations.SampleWordsDecode := by
  simp only [Obligations.SampleWordsDecode, decode_eq_ok_iff_encode]
  decide

/-! ## The table of MASK and MATCH (R84) -/

/-- What R84's table says of an opcode, from the opcode map: the row's MATCH and MASK. -/
def tableRow (o : Byte) : Option (CmdWord × CmdWord) := (rowOf o).map fun r => (o.setWidth 64, maskOf r.use)

/-- The table holds the rows of the opcode map, in the order of their opcodes: a check of all 256 opcodes. -/
theorem opcodeTable_eq : opcodeTable = (List.finRange 256).filterMap fun o => tableRow (BitVec.ofFin o) := by
  decide

theorem mem_opcodeTable_iff (p : CmdWord × CmdWord) :
    p ∈ opcodeTable ↔ ∃ o r, rowOf o = some r ∧ p = (o.setWidth 64, maskOf r.use) := by
  rw [opcodeTable_eq, List.mem_filterMap]
  constructor
  · rintro ⟨o, -, listed⟩
    obtain ⟨r, row, rfl⟩ := Option.map_eq_some_iff.1 listed
    exact ⟨_, r, row, rfl⟩
  · rintro ⟨o, r, row, rfl⟩
    exact ⟨o.toFin, List.mem_finRange _, by simp [tableRow, row]⟩

theorem opcode_word_injective {o o' : Byte} (same : o.setWidth 64 = o'.setWidth 64) : o = o' := by
  rw [← opcOf_opcode_word o, same, opcOf_opcode_word]

/-- A word that decodes matches a row of the table. -/
theorem exists_row_of_decode {w : CmdWord} {i : Instr} (legal : decode w = .ok i) : ∃ p ∈ opcodeTable, w &&& p.2 = p.1 := by
  obtain ⟨r, row, passes⟩ := matches_of_decode legal
  exact ⟨_, (mem_opcodeTable_iff _).2 ⟨_, r, row, rfl⟩, passes⟩

/-- Settles O3: a row of the table is the row of its opcode in the map, and a word has one opcode. -/
theorem decodeSelectsByMaskAndMatch : Obligations.DecodeSelectsByMaskAndMatch := by
  refine ⟨fun w p listed => ?_, fun w i => exists_row_of_decode, fun w p listed q listed' passes passes' => ?_⟩
  · obtain ⟨o, r, row, rfl⟩ := (mem_opcodeTable_iff p).1 listed
    constructor
    · intro passes
      obtain ⟨-, i, legal, rfl⟩ := decode_of_matches row passes
      exact ⟨i, legal, rfl⟩
    · rintro ⟨i, legal, same⟩
      obtain rfl := opcode_word_injective same
      obtain ⟨r', row', passes⟩ := matches_of_decode legal
      obtain rfl : r = r' := Option.some.inj (row.symm.trans row')
      exact passes
  · obtain ⟨o, r, row, rfl⟩ := (mem_opcodeTable_iff p).1 listed
    obtain ⟨o', r', row', rfl⟩ := (mem_opcodeTable_iff q).1 listed'
    obtain ⟨rfl, -⟩ := decode_of_matches row passes
    obtain ⟨rfl, -⟩ := decode_of_matches row' passes'
    obtain rfl : r = r' := Option.some.inj (row.symm.trans row')
    rfl

end Sys2Proof
end

section
/-! The cycle of one command word (spec/30_encoding.md R85, R87, R88): a legal word runs its command, an illegal word and a
zero operand are answered and nothing else. -/

namespace Sys2Proof.Machine

open Sys2Proof

/-! ## A word that is presented runs (R87, R89) -/

/-- Settles O5: the step works on the command, and no power-on reset meets it. -/
theorem stepRunsTheDecodedCommand : Obligations.StepRunsTheDecodedCommand := by
  intro s w rest i presents legal noReset
  obtain ⟨u, answers⟩ := exec_answers i (accepted s rest)
  rw [(Works.accepts w rest i u presents legal answers).step_eq, answers]
  exact underReset_of_not (accepted s rest) (.next u) noReset

/-- A 64-bit word is placed as it stands (R80). -/
theorem withFetchWord_toNat (s : State) (w : CmdWord) : s.withFetchWord 64 w.toNat = presentWord w s := by
  rw [State.withFetchWord, Nat.mod_eq_of_lt w.isLt, BitVec.ofNat_toNat, BitVec.setWidth_eq]

/-- A placed word is presented, in front of the events that were pending. -/
theorem presentWord_presents {s : State} (sound : s.cfg.wellFormed = true) (w : CmdWord) :
    Presents (presentWord w s) w s.env.events :=
  ⟨sound, rfl, rfl, rfl⟩

/-- Settles O6: the word placed is the command's, and decodes to it. -/
theorem placedWordRunsNext : Obligations.PlacedWordRunsNext := by
  intro s i sound noReset
  rw [withFetchWord_toNat]
  exact stepRunsTheDecodedCommand _ _ _ i (presentWord_presents sound _) (decodeOfEncodeIsTheCommand i) noReset

/-! ## Illegal words (R85) -/

theorem illegal_of_no_row {w : CmdWord} (noRow : ∀ p ∈ opcodeTable, w &&& p.2 ≠ p.1) : ∃ e, decode w = .error e := by
  cases decoded : decode w with
  | error e => exact ⟨e, rfl⟩
  | ok i =>
    obtain ⟨p, listed, passes⟩ := exists_row_of_decode decoded
    exact absurd passes (noRow p listed)

/-- A response that has made no transaction is cut only by a reset that waits for none (R232). -/
theorem meetReset_doneWith (s : State) (f : Flags) {n : Nat} (later : n ≠ 0) :
    s.meetReset (doneWith s f) n = doneWith s f := by
  have silent : s.entriesSince (doneWith s f) = [] := State.entriesSince_eq (List.append_nil _).symm
  rcases s.meetReset_cases (doneWith s f) n with ⟨cut, -⟩ | ⟨-, flying, -⟩ | ⟨-, -, responded⟩
  · exact absurd (by simpa [silent] using cut) later
  · exact absurd rfl flying
  · exact responded

theorem underReset_doneWith (s : State) (f : Flags) (notAtOnce : s.env.events.head? ≠ some (.reset 0)) :
    underReset s (.next (doneWith s f)) = .next (doneWith s f) := by
  rcases events : s.env.events with _ | ⟨w | n, rest⟩
  · exact underReset_of_not s _ (by rw [events]; rfl)
  · exact underReset_of_not s _ (by rw [events]; rfl)
  · have later : n ≠ 0 := by simpa [events] using notAtOnce
    rw [underReset_of_reset s _ n rest events, meetReset_doneWith s f later]

/-- The opcodes that R85 lists are those that no row of the table has. -/
theorem unassigned_opcodes (opc : Byte) : (∀ p ∈ opcodeTable, p.1.toNat ≠ opc.toNat) ↔
    (opc.toNat = 0x00 ∨ (0x02 ≤ opc.toNat ∧ opc.toNat ≤ 0x0F) ∨ (0x1B ≤ opc.toNat ∧ opc.toNat ≤ 0x1F) ∨
      (0x25 ≤ opc.toNat ∧ opc.toNat ≤ 0x27) ∨ (0x2A ≤ opc.toNat ∧ opc.toNat ≤ 0x2F) ∨ 0x36 ≤ opc.toNat) := by
  simp only [opcodeTable, List.forall_mem_cons, List.not_mem_nil, false_imp_iff, implies_true, and_true, BitVec.reduceToNat]
  omega

/-- Settles O7: a word without a row does not decode, and its answer makes no transaction. -/
theorem illegalWordIsAnsweredOnly : Obligations.IllegalWordIsAnsweredOnly := by
  refine ⟨fun s w rest presents noRow notAtOnce => ?_, unassigned_opcodes⟩
  obtain ⟨e, illegal⟩ := illegal_of_no_row noRow
  rw [(Works.rejects w rest e presents illegal).step_eq]
  exact underReset_doneWith (accepted s rest) 0b0100#4 notAtOnce

/-! ## The operand checks (R88) -/

/-- The commands that fail their operand check are three. -/
theorem wellFormed_eq_false_iff (i : Instr) : i.wellFormed = false ↔
    i ∈ [Instr.setProxRate 0#16, Instr.setIntPersist 0#16, Instr.setAlsRate 0#16] := by
  cases i <;> simp [Instr.wellFormed]

/-- A command that fails its operand check is answered, and does nothing else. -/
theorem exec_of_not_wellFormed {i : Instr} (fails : i.wellFormed = false) (s : State) :
    exec i s = .next (doneWith s invalidOperand) := by
  have listed := (wellFormed_eq_false_iff i).1 fails
  simp only [List.mem_cons, List.not_mem_nil, or_false] at listed
  rcases listed with rfl | rfl | rfl
  · exact exec_setProxRate_eq 0#16 s
  · exact exec_setIntPersist_eq 0#16 s
  · exact exec_setAlsRate_eq 0#16 s

@[simp] theorem nackFlag_getElem_three (acked : Bool) : (nackFlag acked)[3] = false := by
  cases acked <;> rfl

/-- The poll loop raises BUS_ERR and TIMEOUT only (R171). -/
theorem PollsTo.noInvalidOperand {s t : State} {h : Byte} {f : Flags} (loop : PollsTo s h f t) (clear : f[3] = false)
    (completed : t.inFlight = none) : t.rspFlags[3] = false := by
  cases loop with
  | holds new e acked => simp at completed
  | ends new e acked v hs late ending =>
    have lateClear : late[3] = false := by rcases ending with ⟨-, rfl⟩ | ⟨-, rfl⟩ <;> rfl
    simp [clear, lateClear]

theorem CommandLeaves.noInvalidOperand {s t : State} {i : Instr} (leaves : CommandLeaves s i t) (passes : i.wellFormed = true)
    (completed : t.inFlight = none) : t.rspFlags[3] = false := by
  cases leaves with
  | refuses i fails => simp [passes] at fails
  | polls i onDemand t0 new e acked h _ loop => exact loop.noInvalidOperand (nackFlag_getElem_three acked) completed
  | answers | writesField | begins | enablesCc | updates => simp

/-- Settles O8: the listed commands are those that fail their check, and no other family raises the flag. -/
theorem operandChecksAreTheOnlyOnes : Obligations.OperandChecksAreTheOnlyOnes := by
  refine ⟨fun s i listed => exec_of_not_wellFormed ((wellFormed_eq_false_iff i).2 listed) s, fun s i unlisted => ?_⟩
  have passes : i.wellFormed = true := Bool.eq_true_of_not_eq_false (mt (wellFormed_eq_false_iff i).1 unlisted)
  obtain ⟨t, answers⟩ := exec_answers i s
  exact ⟨t, answers, (CommandLeaves.of_exec answers).noInvalidOperand passes⟩

end Sys2Proof.Machine
end

section
/-! A row of the opcode map as the statements about one command speak of it (spec/30_encoding.md R84, R85), and BEGIN
(spec/40_initialization.md R100): three shadows zeroed between five writes that no missing acknowledgement stops. -/

namespace Sys2Proof

/-! ## The row of one command (R82, R84, R85) -/

/-- A word whose low byte is an opcode's MATCH has that opcode (R81). -/
theorem opcOf_of_low_byte {w : CmdWord} {o : Byte} (low : w &&& 0xFF#64 = o.setWidth 64) : opcOf w = o := by
  have byteMask : opcOf 0xFF#64 = 255#8 := by decide
  simpa only [opcOf_and, byteMask, and_ones_byte, opcOf_opcode_word] using congrArg opcOf low

/-- Every row of the opcode map decodes as R84 and R85 say: a word that passes the row's test builds the row's command, and
a word with the row's opcode that fails the test decodes to nothing. -/
theorem rowDecodes_of_row {o : Byte} {use : OperandUse} {build : Half → Half → Instr} (row : rowOf o = some ⟨use, build⟩) :
    RowDecodes (maskOf use) (o.setWidth 64) build := by
  refine fun w => ⟨fun passes => ?_, fun low fails => ?_⟩
  · obtain ⟨rfl, -⟩ := decode_of_matches row passes
    exact (decode_eq_ok_iff_row w _).2 ⟨_, row, passes, rfl⟩
  · obtain rfl := opcOf_of_low_byte low
    cases decoded : decode w with
    | error e => exact ⟨e, rfl⟩
    | ok i =>
      obtain ⟨r, row', passes, -⟩ := (decode_eq_ok_iff_row w i).1 decoded
      obtain rfl : _ = r := Option.some.inj (row.symm.trans row')
      exact absurd passes fails

namespace Machine

/-! ## Writes inside a command that has raised BUS_ERR or nothing (R87, R202) -/

theorem State.start_eq (s : State) : s.start = ⟨nackFlag true, s⟩ := rfl

/-- One more write: the command's flags take its acknowledgement too, and whatever that is, the entry is appended. -/
theorem Run.write_nackFlag (s : State) (acked : Bool) (addr v : Byte) :
    Run.write ⟨nackFlag acked, s⟩ addr v =
      ⟨nackFlag (acked && s.env.ackAt 0), s.transact [writeEntry s 0 addr v] (s.env.dropAcks 1)⟩ := by
  rw [Run.write_eq, raiseUnlessAcked_nackFlag]
  rfl

/-! ## BEGIN (R100) -/

theorem exec_beginInit_eq (s : State) : exec .beginInit s = execBegin s := rfl

/-- Settles O14: BEGIN has the row of opcode 0x01, and its five writes are made one after the other. -/
theorem beginZeroesAndIssuesFiveWrites : Obligations.BeginZeroesAndIssuesFiveWrites := by
  refine ⟨rowDecodes_of_row (o := 0x01#8) (use := .unused) rfl, fun s => ?_⟩
  simp only [exec_beginInit_eq, execBegin, State.start_eq, Run.modify, Run.write_nackFlag, Run.finish, respond_eq_doneWith]
  simp [State.setShadow, State.setGfSel, State.transact, writeEntry]

end Machine

end Sys2Proof
end

section
/-! The field write of the configuration commands (spec/41_configuration.md R110): the register it leaves, bit by bit, and
the state it leaves. From these the commands of R111 to R126, each with its own mask and code. -/

namespace Sys2Proof.Machine

open Sys2Proof

/-! ## The value a field write gives a register (R110) -/

/-- A bit is the code's, or the register's own where the mask leaves it. -/
theorem fieldValue_getLsbD (old mask code : Byte) (k : Nat) :
    (fieldValue old mask code).getLsbD k = (old.getLsbD k && !mask.getLsbD k || code.getLsbD k) := by
  by_cases inside : k < 8
  · simp [fieldValue, inside]
  · simp [fieldValue, BitVec.getLsbD_of_ge old k (by omega), inside]

/-- Where neither the mask nor the code has a bit, the register keeps its own. -/
theorem fieldValue_and_not_mask {old mask code : Byte} (within : code &&& ~~~mask = 0#8) :
    fieldValue old mask code &&& ~~~mask = old &&& ~~~mask := by
  rw [fieldValue_and, BitVec.and_assoc, BitVec.and_self, within, BitVec.or_zero]

/-- A second field write with the same mask undoes the first, whose code lay within the mask. -/
theorem fieldValue_fieldValue {old mask code : Byte} (within : code &&& ~~~mask = 0#8) (code' : Byte) :
    fieldValue (fieldValue old mask code) mask code' = fieldValue old mask code' := by
  rw [fieldValue, fieldValue_and_not_mask within, fieldValue]

/-! ## The state a field write leaves (R110) -/

/-- R110 inside a command: the shadow takes the value, one write of it is made, and BUS_ERR tells its acknowledgement. -/
theorem Run.fieldWrite_transacts (r : Run) (x : Shadow) (addr mask code : Byte) :
    r.fieldWrite x addr mask code =
      ⟨r.flags ||| nackFlag (r.state.env.ackAt 0),
        (r.state.setShadow x (fieldValue (r.state.shadow x) mask code)).transact
          [writeEntry r.state 0 addr (fieldValue (r.state.shadow x) mask code)] (r.state.env.dropAcks 1)⟩ := by
  rw [Run.fieldWrite_eq, Run.write_eq, raiseUnlessAcked_eq_or]
  simp [Run.modify, State.transact, writeEntry, fieldValue]

/-- Settles O41: the value bit by bit, and the rest from the state that the field write leaves. -/
theorem fieldWriteClearsAndOrs : Obligations.FieldWriteClearsAndOrs := by
  intro r x addr mask code
  refine ⟨fieldValue (r.state.shadow x) mask code, fun k _ => fieldValue_getLsbD _ mask code k, ?_⟩
  rw [Run.fieldWrite_transacts]
  refine ⟨by simp, fun y other => ?_, by simp, rfl⟩
  simp [State.setShadow_shadow_other _ _ _ _ other]

/-- What a command that is one field write and a response leaves of `s`. -/
def State.withField (s : State) (x : Shadow) (addr v : Byte) : State :=
  doneWith ((s.setShadow x v).transact [writeEntry s 0 addr v] (s.env.dropAcks 1)) (nackFlag (s.env.ackAt 0))

/-- The whole of such a command (R87, R110). -/
theorem State.finish_fieldWrite (s : State) (x : Shadow) (addr mask code : Byte) :
    (s.start.fieldWrite x addr mask code).finish = s.withField x addr (fieldValue (s.shadow x) mask code) := by
  rw [Run.fieldWrite_transacts, Run.finish, respond_eq_doneWith, State.start, BitVec.zero_or]
  rfl

theorem State.withField_shadow_same (s : State) (x : Shadow) (addr v : Byte) : (s.withField x addr v).shadow x = v := by
  cases x <;> rfl

theorem State.withField_shadow_other (s : State) {x y : Shadow} (addr v : Byte) (other : y ≠ x) :
    (s.withField x addr v).shadow y = s.shadow y := by
  rw [← State.setShadow_shadow_other s x y v other]
  cases y <;> rfl

/-! ## The commands that are one field write, in one equation each -/

theorem exec_setProxRate_of_ne_zero {a : Half} (passes : a ≠ 0#16) (s : State) : exec (.setProxRate a) s =
    .next (s.withField .prox s.cfg.aProxCfg (fieldValue s.shProx 0x07#8 (codeByte (pRateCode a)))) := by
  rw [exec_setProxRate_eq, if_neg passes, State.finish_fieldWrite, State.shadow_prox]

theorem exec_setIntPersist_of_ne_zero {a : Half} (passes : a ≠ 0#16) (s : State) : exec (.setIntPersist a) s =
    .next (s.withField .int s.cfg.aIntCfg (fieldValue s.shInt 0xE0#8 (codeByte (persCode a) <<< 5))) := by
  rw [exec_setIntPersist_eq, if_neg passes, State.finish_fieldWrite, State.shadow_int]

theorem exec_setAlsRate_of_ne_zero {a : Half} (passes : a ≠ 0#16) (s : State) : exec (.setAlsRate a) s =
    .next (s.withField .als s.cfg.aAlsCfg (fieldValue s.shAls 0x07#8 (codeByte (aRateCode a)))) := by
  rw [exec_setAlsRate_eq, if_neg passes, State.finish_fieldWrite, State.shadow_als]

theorem exec_proxOffsetEn_eq (s : State) :
    exec .proxOffsetEn s = .next (s.withField .prox s.cfg.aProxCfg (fieldValue s.shProx 0x08#8 0x08#8)) :=
  congrArg Host.Outcome.next (s.finish_fieldWrite .prox _ _ _)

theorem exec_proxOffsetDis_eq (s : State) :
    exec .proxOffsetDis s = .next (s.withField .prox s.cfg.aProxCfg (fieldValue s.shProx 0x08#8 0x00#8)) :=
  congrArg Host.Outcome.next (s.finish_fieldWrite .prox _ _ _)

theorem exec_proxIntDis_eq (s : State) :
    exec .proxIntDis s = .next (s.withField .int s.cfg.aIntCfg (fieldValue s.shInt s.cfg.pintMask 0x00#8)) :=
  congrArg Host.Outcome.next (s.finish_fieldWrite .int _ _ _)

/-- The code that ALS_INT_DIS gives its pair, by policy (R121). -/
def alsIntDisCode (c : Cfg) : Byte :=
  match c.aintDisPolicy with
  | .legacy => c.aintMask
  | .fixed => 0x00#8

theorem alsIntDisCode_of_legacy {c : Cfg} (policy : c.aintDisPolicy = .legacy) : alsIntDisCode c = c.aintMask := by
  rw [alsIntDisCode, policy]

theorem alsIntDisCode_of_fixed {c : Cfg} (policy : c.aintDisPolicy = .fixed) : alsIntDisCode c = 0x00#8 := by
  rw [alsIntDisCode, policy]

theorem exec_alsIntDis_eq (s : State) : exec .alsIntDis s =
    .next (s.withField .int s.cfg.aIntCfg (fieldValue s.shInt s.cfg.aintMask (alsIntDisCode s.cfg))) :=
  congrArg Host.Outcome.next (s.finish_fieldWrite .int _ _ _)

/-- The gain entry is selected before the field write, which does not look at it (R124). -/
theorem exec_setAdcGain_eq (a : Half) (s : State) : exec (.setAdcGain a) s =
    .next ((s.setGfSel (gainSel a)).withField .als s.cfg.aAlsCfg
      (fieldValue s.shAls 0x18#8 ((gainCode s.cfg (gainSel a)).setWidth 8 <<< 3))) :=
  congrArg Host.Outcome.next ((s.setGfSel (gainSel a)).finish_fieldWrite .als _ _ _)

/-! ## The codes of the rates and the persistence (R112, R114, R125) -/

/-- An operand that passes its check (R88), as a number. -/
theorem toNat_ne_zero_of_passes {a : Half} (passes : a ≠ 0#16) : a.toNat ≠ 0 :=
  fun zero => passes (BitVec.eq_of_toNat_eq zero)

theorem pRateCode_of_lt {a : Half} (below : a.toNat < 256) : pRateCode a = Nat.log2 a.toNat := by
  rw [pRateCode, Nat.min_eq_left (by omega)]

theorem pRateCode_of_ge {a : Half} (above : 256 ≤ a.toNat) : pRateCode a = 8 := by
  rw [pRateCode, Nat.min_eq_right above]
  decide

theorem persCode_of_lt {a : Half} (below : a.toNat < 128) : persCode a = Nat.log2 a.toNat := by
  rw [persCode, Nat.min_eq_left (by omega)]

theorem persCode_of_ge {a : Half} (above : 128 ≤ a.toNat) : persCode a = 7 := by
  rw [persCode, Nat.min_eq_right above]
  decide

/-- A code below 8 is the three low bits of its byte. -/
theorem codeByte_low_bits {n : Nat} (small : n < 8) :
    ((codeByte n).extractLsb' 0 3).toNat = n ∧ (codeByte n).getLsbD 3 = false ∧ (codeByte n).extractLsb' 3 5 = 0#5 := by
  revert n
  decide

/-- A code below 8, shifted to bits 7:5, is the three high bits of its byte. -/
theorem codeByte_high_bits {n : Nat} (small : n < 8) :
    ((codeByte n <<< 5).extractLsb' 5 3).toNat = n ∧ (codeByte n <<< 5).extractLsb' 0 5 = 0#5 := by
  revert n
  decide

/-- Settles O15: up to 255 the code lies in bits 2:0, and from 256 on it is 8, which the unmasked OR puts in bit 3. -/
theorem setProxRateWritesTheRateField : Obligations.SetProxRateWritesTheRateField := by
  refine ⟨rowDecodes_of_row (o := 0x10#8) (use := .aOnly) rfl, exec_of_not_wellFormed rfl, fun a s passes =>
    ⟨fieldValue s.shProx 0x07#8 (codeByte (pRateCode a)), exec_setProxRate_of_ne_zero passes s,
      fieldValue_extract_of_unmasked (by decide) (codeByte_extract_of_lt_16 (pRateCode_lt passes)), ?_⟩⟩
  have bitThree (code : Byte) : (fieldValue s.shProx 0x07#8 code).getLsbD 3 = (s.shProx.getLsbD 3 || code.getLsbD 3) := by
    rw [fieldValue_getLsbD]
    simp
  have rateBits (code : Byte) : (fieldValue s.shProx 0x07#8 code).extractLsb' 0 3 = code.extractLsb' 0 3 :=
    fieldValue_extract_of_masked (by decide)
  rw [bitThree, rateBits]
  have nonzero := toNat_ne_zero_of_passes passes
  split
  · next below =>
    obtain ⟨low, clear, -⟩ := codeByte_low_bits ((Nat.log2_lt nonzero).2 below)
    rw [pRateCode_of_lt below, low, clear, Bool.or_false]
    exact ⟨rfl, Nat.log2_self_le nonzero, Nat.lt_log2_self⟩
  · next above =>
    rw [pRateCode_of_ge (by omega)]
    exact ⟨Bool.or_true _, by decide⟩

/-- Settles O16: the code is at most 7, so that the shifted code has no bit below bit 5. -/
theorem setIntPersistWritesThePersistenceField : Obligations.SetIntPersistWritesThePersistenceField := by
  refine ⟨rowDecodes_of_row (o := 0x11#8) (use := .aOnly) rfl, exec_of_not_wellFormed rfl, fun a s passes =>
    ⟨fieldValue s.shInt 0xE0#8 (codeByte (persCode a) <<< 5), exec_setIntPersist_of_ne_zero passes s, ?_⟩⟩
  have nonzero := toNat_ne_zero_of_passes passes
  rw [fieldValue_extract_of_masked (k := 5) (by decide)]
  split
  · next below =>
    obtain ⟨high, clear⟩ := codeByte_high_bits ((Nat.log2_lt nonzero).2 (by omega))
    rw [persCode_of_lt below, high]
    exact ⟨fieldValue_extract_of_unmasked (by decide) clear, Nat.log2_self_le nonzero, Nat.lt_log2_self⟩
  · next above =>
    rw [persCode_of_ge (by omega)]
    exact ⟨fieldValue_extract_of_unmasked (by decide) (by decide), by decide⟩

/-- Settles O24: the code is one less than the rate, and at most 7. -/
theorem setAlsRateWritesTheRateField : Obligations.SetAlsRateWritesTheRateField := by
  refine ⟨rowDecodes_of_row (o := 0x1A#8) (use := .aOnly) rfl, exec_of_not_wellFormed rfl, fun a s passes => ?_⟩
  have nonzero := toNat_ne_zero_of_passes passes
  obtain ⟨low, -, clear⟩ := codeByte_low_bits (n := aRateCode a) (by unfold aRateCode; omega)
  refine ⟨fieldValue s.shAls 0x07#8 (codeByte (aRateCode a)), exec_setAlsRate_of_ne_zero passes s,
    fieldValue_extract_of_unmasked (by decide) clear, ?_⟩
  rw [fieldValue_extract_of_masked (by decide), ← BitVec.toNat_inj, low, aRateCode]
  split
  · omega
  · show _ = 7
    omega

/-! ## The proximity offset (R115, R116) -/

/-- Bit 3 is the code's. -/
theorem fieldValue_bitThree_getLsbD_three (old code : Byte) :
    (fieldValue old 0x08#8 code).getLsbD 3 = code.getLsbD 3 := by
  rw [fieldValue_getLsbD]
  simp

/-- Setting or clearing bit 3 leaves every other bit. -/
theorem fieldValue_bitThree_getLsbD_other {k : Nat} (other : k ≠ 3) {code : Byte} (within : code = 0x08#8 ∨ code = 0x00#8)
    (old : Byte) : (fieldValue old 0x08#8 code).getLsbD k = old.getLsbD k := by
  have mask : (0x08#8).getLsbD k = false := by
    rw [show 0x08#8 = BitVec.twoPow 8 3 from rfl, BitVec.getLsbD_twoPow]
    simp [other.symm]
  rcases within with rfl | rfl <;> simp [fieldValue_getLsbD, mask]

/-- Settles O17: the two commands share the mask 0x08 and differ in the code's bit 3. -/
theorem proxOffsetSetsAndClearsBitThree : Obligations.ProxOffsetSetsAndClearsBitThree := by
  refine ⟨rowDecodes_of_row (o := 0x12#8) (use := .unused) rfl, rowDecodes_of_row (o := 0x13#8) (use := .unused) rfl,
    fun s => ?_⟩
  simp only [List.forall_mem_cons, List.not_mem_nil, false_imp_iff, implies_true, and_true]
  constructor
  · exact ⟨_, exec_proxOffsetEn_eq s, fieldValue_bitThree_getLsbD_three _ _,
      fun k other => fieldValue_bitThree_getLsbD_other other (.inl rfl) _⟩
  · exact ⟨_, exec_proxOffsetDis_eq s, fieldValue_bitThree_getLsbD_three _ _,
      fun k other => fieldValue_bitThree_getLsbD_other other (.inr rfl) _⟩

/-- Settles O18: the second enable and the disable each replace the bit that the enable before has written. -/
theorem proxOffsetEnableIsIdempotentAndUndone : Obligations.ProxOffsetEnableIsIdempotentAndUndone := by
  intro s t u v first second undo
  rw [exec_proxOffsetEn_eq] at first second
  rw [exec_proxOffsetDis_eq] at undo
  cases first
  cases second
  cases undo
  simp only [← State.shadow_prox, State.withField_shadow_same]
  have within : (0x08#8 : Byte) &&& ~~~0x08#8 = 0#8 := by decide
  rw [fieldValue_fieldValue within, fieldValue_fieldValue within]
  refine ⟨fun x => ?_, fieldValue_bitThree_getLsbD_three _ _, fun clear => ?_, fun x other => ?_⟩
  · by_cases prox : x = .prox
    · subst prox
      simp only [State.withField_shadow_same]
    · rw [State.withField_shadow_other _ _ _ prox]
  · apply BitVec.eq_of_getLsbD_eq
    intro k _
    by_cases three : k = 3
    · subst three
      rw [fieldValue_bitThree_getLsbD_three, clear]
      rfl
    · exact fieldValue_bitThree_getLsbD_other three (.inr rfl) _
  · simp only [State.withField_shadow_other _ _ _ other]

/-! ## The interrupt enables (R117 to R121) -/

theorem thLo_toNat (v : Half) : (thLo v).toNat = v.toNat % 256 := by
  simp [thLo]

theorem thHi_legacy (v : Half) : thHi .legacy v = 0x00#8 := rfl

theorem thHi_fixed_toNat (v : Half) : (thHi .fixed v).toNat = v.toNat / 256 := by
  have bounded := v.isLt
  simp only [thHi, BitVec.extractLsb'_toNat, Nat.shiftRight_eq_div_pow]
  omega

/-- Settles O42: the byte that LEGACY truncates away is the one FIXED sends. -/
theorem thresholdBytesSplit : Obligations.ThresholdBytesSplit := by
  intro v
  refine ⟨thLo_toNat v, ?_, thHi_legacy v, ?_⟩
  · rw [thHi_legacy, BitVec.setWidth_and, show (0xFF00#16).setWidth 8 = 0#8 from rfl, BitVec.and_zero]
  · rw [thLo_toNat, thHi_fixed_toNat]
    omega

/-- What R117 makes of the two thresholds, by policy. -/
theorem thresholdBytes_by_policy (p : DefectPolicy) (a b : Half) :
    (thLo a).toNat = a.toNat % 256 ∧ (thLo b).toNat = b.toNat % 256 ∧
      (p = .legacy → thHi p a = 0x00#8 ∧ thHi p b = 0x00#8) ∧
      (p = .fixed → (thHi p a).toNat = a.toNat / 256 ∧ (thHi p b).toNat = b.toNat / 256) := by
  refine ⟨thLo_toNat a, thLo_toNat b, ?_, ?_⟩
  · rintro rfl
    exact ⟨rfl, rfl⟩
  · rintro rfl
    exact ⟨thHi_fixed_toNat a, thHi_fixed_toNat b⟩

/-- Setting a pair sets both its bits and keeps the others. -/
theorem fieldValue_sets (old mask : Byte) :
    fieldValue old mask mask &&& mask = mask ∧ fieldValue old mask mask &&& ~~~mask = old &&& ~~~mask :=
  ⟨by rw [fieldValue_and_mask, BitVec.and_self], fieldValue_and_not_mask (by simp)⟩

/-- Clearing a pair clears both its bits and keeps the others. -/
theorem fieldValue_clears (old mask : Byte) :
    fieldValue old mask 0x00#8 &&& mask = 0x00#8 ∧ fieldValue old mask 0x00#8 &&& ~~~mask = old &&& ~~~mask :=
  ⟨by rw [fieldValue_and_mask, BitVec.zero_and], fieldValue_and_not_mask BitVec.zero_and⟩

/-- The whole of an interrupt enable, for either pair (R118, R120): a field write of `SH.INT` and four threshold writes. -/
theorem finish_writeThresholds (s : State) (mask topH topL botH botL : Byte) (a b : Half) :
    ((s.start.fieldWrite .int s.cfg.aIntCfg mask mask).writeThresholds topH topL botH botL a b).finish =
      doneWith ((s.setShadow .int (fieldValue s.shInt mask mask)).transact
        [writeEntry s 0 s.cfg.aIntCfg (fieldValue s.shInt mask mask), writeEntry s 1 topH (thHi s.cfg.thHiPolicy a),
          writeEntry s 2 topL (thLo a), writeEntry s 3 botH (thHi s.cfg.thHiPolicy b), writeEntry s 4 botL (thLo b)]
        (s.env.dropAcks 5))
      (nackFlag (s.env.ackAt 0 && s.env.ackAt 1 && s.env.ackAt 2 && s.env.ackAt 3 && s.env.ackAt 4)) := by
  rw [Run.fieldWrite_transacts, Run.writeThresholds_eq, Run.finish, respond_eq_doneWith, State.start]
  simp [State.transact, writeEntry, raiseUnlessAcked_nackFlag]

theorem exec_proxIntEn_eq (a b : Half) (s : State) : exec (.proxIntEn a b) s =
    .next ((s.start.fieldWrite .int s.cfg.aIntCfg s.cfg.pintMask s.cfg.pintMask).writeThresholds
      s.cfg.aPthTopH s.cfg.aPthTopL s.cfg.aPthBotH s.cfg.aPthBotL a b).finish := rfl

theorem exec_alsIntEn_eq (a b : Half) (s : State) : exec (.alsIntEn a b) s =
    .next ((s.start.fieldWrite .int s.cfg.aIntCfg s.cfg.aintMask s.cfg.aintMask).writeThresholds
      s.cfg.aAthTopH s.cfg.aAthTopL s.cfg.aAthBotH s.cfg.aAthBotL a b).finish := rfl

/-- Settles O19: both commands are one enable, with their own mask and threshold registers. -/
theorem interruptEnablesWriteFiveBytes : Obligations.InterruptEnablesWriteFiveBytes := by
  refine ⟨rowDecodes_of_row (o := 0x14#8) (use := .aAndB) rfl, rowDecodes_of_row (o := 0x16#8) (use := .aAndB) rfl,
    fun a b s => ?_⟩
  have policy := thresholdBytes_by_policy s.cfg.thHiPolicy a b
  simp only [List.forall_mem_cons, List.not_mem_nil, false_imp_iff, implies_true, and_true]
  constructor
  · obtain ⟨sets, keeps⟩ := fieldValue_sets s.shInt s.cfg.pintMask
    rw [exec_proxIntEn_eq, finish_writeThresholds]
    exact ⟨_, _, _, _, _, rfl, sets, keeps, policy⟩
  · obtain ⟨sets, keeps⟩ := fieldValue_sets s.shInt s.cfg.aintMask
    rw [exec_alsIntEn_eq, finish_writeThresholds]
    exact ⟨_, _, _, _, _, rfl, sets, keeps, policy⟩

/-- Settles O20: the field write of code 0 with the pair as its mask, and nothing after it. -/
theorem proxIntDisClearsItsPair : Obligations.ProxIntDisClearsItsPair :=
  ⟨rowDecodes_of_row (o := 0x15#8) (use := .unused) rfl,
    fun s => ⟨_, exec_proxIntDis_eq s, fieldValue_clears s.shInt s.cfg.pintMask⟩⟩

/-- Settles O21: the code is the whole pair under LEGACY and 0 under FIXED. -/
theorem alsIntDisFollowsItsPolicy : Obligations.AlsIntDisFollowsItsPolicy := by
  refine ⟨rowDecodes_of_row (o := 0x17#8) (use := .unused) rfl, fun s => ⟨_, exec_alsIntDis_eq s, ?_⟩⟩
  cases policy : s.cfg.aintDisPolicy with
  | legacy =>
    rw [alsIntDisCode_of_legacy policy]
    obtain ⟨sets, keeps⟩ := fieldValue_sets s.shInt s.cfg.aintMask
    exact ⟨fun _ => sets, nofun, keeps⟩
  | fixed =>
    rw [alsIntDisCode_of_fixed policy]
    obtain ⟨clears, keeps⟩ := fieldValue_clears s.shInt s.cfg.aintMask
    exact ⟨nofun, fun _ => clears, keeps⟩

/-! ## Colour compensation (R122) -/

theorem compensationValue_toNat (p : BitVec 1) : (compensationValue p).toNat = 1 + 2 * p.toNat := by
  revert p
  decide

theorem exec_colorCompEn_eq (p : BitVec 1) (s : State) : exec (.colorCompEn p) s = .next (doneWith
    (s.enableCc.transact [writeEntry s 0 s.cfg.aAlsComp (compensationValue p)] (s.env.dropAcks 1))
    (nackFlag (s.env.ackAt 0))) := by
  show Host.Outcome.next ((s.start.write _ _).modify State.enableCc).finish = _
  rw [State.start_eq, Run.write_nackFlag]
  rfl

/-- Settles O22: `A[0]` is the operand's one bit, and the mode is set whatever the acknowledgement. -/
theorem colorCompEnWritesAndSetsTheMode : Obligations.ColorCompEnWritesAndSetsTheMode := by
  have lowBit (a : Half) : a.setWidth 1 = a.extractLsb' 0 1 := rfl
  refine ⟨rowDecodes_of_row (o := 0x18#8) (use := .pOnly) ?_,
    fun p s => ⟨_, exec_colorCompEn_eq p s, compensationValue_toNat p⟩⟩
  simp only [← lowBit]
  rfl

/-! ## The gain (R123, R124) -/

/-- The exact match of R123, on the operand's number. -/
theorem gainSel_eq (a : Half) : gainSel a =
    if a.toNat = 800 then .fa800 else if a.toNat = 3200 then .fa3200 else if a.toNat = 25600 then .fa25600
    else .fa200 := by
  simp only [gainSel, ← BitVec.toNat_inj, BitVec.reduceToNat]

/-- Settles O23: the entry that is selected is the one whose code is written. -/
theorem setAdcGainSelectsTheEntry : Obligations.SetAdcGainSelectsTheEntry := by
  refine ⟨rowDecodes_of_row (o := 0x19#8) (use := .aOnly) rfl, fun a s => ?_⟩
  obtain ⟨high, code⟩ := gainField_extract (gainCode s.cfg (gainSel a))
  refine ⟨fieldValue s.shAls 0x18#8 ((gainCode s.cfg (gainSel a)).setWidth 8 <<< 3), gainSel a, exec_setAdcGain_eq a s,
    fieldValue_extract_of_unmasked (by decide) ?_,
    fieldValue_extract_of_unmasked (by decide) high, ?_⟩
  · generalize gainCode s.cfg (gainSel a) = g
    revert g
    decide
  · rw [fieldValue_extract_of_masked (by decide), code, gainSel_eq]
    split_ifs <;> exact ⟨rfl, rfl⟩

end Sys2Proof.Machine
end

section
/-! What the configuration commands never do: read a device register (spec/41_configuration.md R127), and, under
`AINT_DIS_POLICY = LEGACY`, clear the ALS interrupt enables (R121, R237). -/

namespace Sys2Proof.Machine

open Sys2Proof

/-! ## Writes only (R127) -/

/-- From `s` to `t` the log has grown by writes only. -/
def WritesOnly (s t : State) : Prop := ∃ new : List LogEntry, t.log = s.log ++ new ∧ ∀ x ∈ new, x.isWrite = true

@[simp] theorem isWrite_writeEntry (s : State) (k : Nat) (addr v : Byte) : (writeEntry s k addr v).isWrite = true := rfl

theorem WritesOnly.withField (s : State) (x : Shadow) (addr v : Byte) : WritesOnly s (s.withField x addr v) :=
  ⟨[writeEntry s 0 addr v], congrArg (· ++ _) (State.setShadow_log s x v), by simp⟩

theorem WritesOnly.enable (s : State) (mask topH topL botH botL : Byte) (a b : Half) : WritesOnly s
    ((s.start.fieldWrite .int s.cfg.aIntCfg mask mask).writeThresholds topH topL botH botL a b).finish := by
  rw [finish_writeThresholds]
  exact ⟨_, rfl, by simp⟩

theorem WritesOnly.of_answer {s t u : State} {i : Instr} (whole : exec i s = .next u) (writes : WritesOnly s u)
    (answers : exec i s = .next t) : WritesOnly s t := by
  cases whole.symm.trans answers
  exact writes

/-- A command with an operand check makes no transaction when it refuses (R88). -/
theorem WritesOnly.unlessZero {s t u : State} {i : Instr} {a : Half} (fails : a = 0#16 → i.wellFormed = false)
    (passes : a ≠ 0#16 → exec i s = .next u) (writes : WritesOnly s u) (answers : exec i s = .next t) :
    WritesOnly s t := by
  by_cases zero : a = 0#16
  · exact .of_answer (exec_of_not_wellFormed (fails zero) s) ⟨[], (List.append_nil _).symm, nofun⟩ answers
  · exact .of_answer (passes zero) writes answers

/-- Settles O50, command by command; the opcodes from 0x20 on are not configuration commands'. -/
theorem configurationNeverReadsBack : Obligations.ConfigurationNeverReadsBack := by
  intro i s t below answers
  show WritesOnly s t
  cases i with
  | beginInit =>
    obtain ⟨-, begins⟩ := beginZeroesAndIssuesFiveWrites
    exact .of_answer (begins s) ⟨_, rfl, by simp⟩ answers
  | setProxRate a =>
    exact .unlessZero (by rintro rfl; rfl) (exec_setProxRate_of_ne_zero · s) (.withField s _ _ _) answers
  | setIntPersist a =>
    exact .unlessZero (by rintro rfl; rfl) (exec_setIntPersist_of_ne_zero · s) (.withField s _ _ _) answers
  | setAlsRate a =>
    exact .unlessZero (by rintro rfl; rfl) (exec_setAlsRate_of_ne_zero · s) (.withField s _ _ _) answers
  | proxOffsetEn => exact .of_answer (exec_proxOffsetEn_eq s) (.withField s _ _ _) answers
  | proxOffsetDis => exact .of_answer (exec_proxOffsetDis_eq s) (.withField s _ _ _) answers
  | proxIntDis => exact .of_answer (exec_proxIntDis_eq s) (.withField s _ _ _) answers
  | alsIntDis => exact .of_answer (exec_alsIntDis_eq s) (.withField s _ _ _) answers
  | setAdcGain a => exact .of_answer (exec_setAdcGain_eq a s) (.withField (s.setGfSel (gainSel a)) _ _ _) answers
  | proxIntEn a b => exact .of_answer (exec_proxIntEn_eq a b s) (.enable s _ _ _ _ _ a b) answers
  | alsIntEn a b => exact .of_answer (exec_alsIntEn_eq a b s) (.enable s _ _ _ _ _ a b) answers
  | colorCompEn p => exact .of_answer (exec_colorCompEn_eq p s) ⟨_, rfl, by simp⟩ answers
  | update | getProxRaw | getAlsRaw | getBlue1Raw | getBlue2Raw | ondemandProx | ondemandAls | getGainFactor | readShProx
  | readShIred | readShAls | readShInt | getStatus => exact absurd below (by decide)

/-! ## The ALS interrupt under LEGACY (R121, R237) -/

/-- Both ALS enable bits are set. -/
def AlsIntOn (s : State) : Prop := s.shInt &&& s.cfg.aintMask = s.cfg.aintMask

theorem AlsIntOn.of_same {s t : State} (on : AlsIntOn s) (int : t.shInt = s.shInt) (cfg : t.cfg = s.cfg) :
    AlsIntOn t := by
  rwa [AlsIntOn, int, cfg]

/-- A field of `SH.INT` that is clear of the ALS pair leaves it. -/
theorem AlsIntOn.fieldValue_of_disjoint {s : State} (on : AlsIntOn s) {mask code : Byte}
    (disjoint : s.cfg.aintMask &&& mask = 0#8) (unset : code &&& s.cfg.aintMask = 0#8) :
    fieldValue s.shInt mask code &&& s.cfg.aintMask = s.cfg.aintMask := by
  rw [Machine.fieldValue_and_of_disjoint disjoint unset, on]

/-- No field write but that of ALS_INT_DIS clears the pair: the others are clear of it (R7), or set it. -/
theorem FieldOf.keeps_alsIntOn {s : State} {i : Instr} {g : GainEntry} {x : Shadow} {mask code : Byte}
    (field : FieldOf s i g x mask code) (sound : s.cfg.wellFormed = true) (other : i ≠ .alsIntDis) (on : AlsIntOn s) :
    AlsIntOn ((s.setGfSel g).setShadow x (fieldValue (s.shadow x) mask code)) := by
  obtain ⟨-, persistence, pairs⟩ := masks_apart_of_wellFormed sound
  have apart : s.cfg.aintMask &&& s.cfg.pintMask = 0#8 := by rw [BitVec.and_comm, pairs]
  cases field with
  | proxRate | offsetOn | offsetOff | adcGain | alsRate => exact on.of_same rfl rfl
  | persistence a passes => exact on.fieldValue_of_disjoint persistence (shiftLeft_five_and_of_clear persistence _)
  | proxIntOn a b => exact on.fieldValue_of_disjoint apart pairs
  | proxIntOff => exact on.fieldValue_of_disjoint apart BitVec.zero_and
  | alsIntOn a b => exact (fieldValue_sets s.shInt s.cfg.aintMask).1
  | alsIntOff => exact absurd rfl other

theorem CommandLeaves.keeps_alsIntOn {s t : State} {i : Instr} (leaves : CommandLeaves s i t)
    (sound : s.cfg.wellFormed = true) (other : i ≠ .alsIntDis) (on : AlsIntOn s) : AlsIntOn t := by
  cases leaves with
  | refuses | answers | begins | enablesCc | updates => exact on.of_same (by simp) (by simp)
  | writesField i g x mask code field => exact (field.keeps_alsIntOn sound other on).of_same (by simp) (by simp)
  | polls i onDemand t0 new e acked h _ loop =>
    exact on.of_same (loop.sameRegisters.shadow .int) loop.sameRegisters.cfg

/-- Under LEGACY, ALS_INT_DIS sets the pair, whatever it was (R121). -/
theorem alsIntOn_of_alsIntDis {s t : State} (legacy : s.cfg.aintDisPolicy = .legacy)
    (answers : exec .alsIntDis s = .next t) : AlsIntOn t := by
  cases (exec_alsIntDis_eq s).symm.trans answers
  rw [alsIntDisCode_of_legacy legacy]
  exact (fieldValue_sets s.shInt s.cfg.aintMask).1

theorem Works.keeps_alsIntOn {s v u : State} (works : Works s v u) (legacy : s.cfg.aintDisPolicy = .legacy)
    (on : AlsIntOn s) : AlsIntOn u := by
  cases works with
  | accepts w rest i _ presents legal answers =>
    by_cases dis : i = .alsIntDis
    · subst dis
      exact alsIntOn_of_alsIntDis (s := accepted s rest) legacy answers
    · exact (CommandLeaves.of_exec answers).keeps_alsIntOn presents.sound dis (on.of_same rfl rfl)
  | rejects => exact on.of_same rfl rfl
  | resumes c =>
    have same := (resumeCommand_pollsTo c s).sameRegisters
    exact on.of_same (same.shadow .int) same.cfg

/-- Settles O52: along what a step leaves, with ALS_INT_DIS apart, which under LEGACY sets the pair. -/
theorem legacyAlsInterruptStaysEnabled : Obligations.LegacyAlsInterruptStaysEnabled := by
  intro s t legacy on taken
  rcases step_leaves taken with rfl | reset | ⟨v, u, e, works, rfl⟩
  · exact .inr on
  · exact .inl reset
  · exact .inr (works.keeps_alsIntOn legacy on)

end Sys2Proof.Machine
end

section
/-! UPDATE and the raw getters (spec/42_measurement_update.md): the one burst and what it puts into the cache, the invariant
of the blue channels (R152), and the values that stay until the next UPDATE (R157). -/

namespace Sys2Proof.Machine

open Sys2Proof

/-! ## The pair (R150) -/

/-- Settles O25: the high byte, shifted past the low one, has no bit in common with it. -/
theorem pairIsBigEndian : Obligations.PairIsBigEndian := by
  intro h l
  have noOverflow : h.toNat <<< 8 < 2 ^ 16 := by
    have bounded := h.isLt
    rw [Nat.shiftLeft_eq]
    omega
  rw [pair, BitVec.toNat_or, BitVec.toNat_shiftLeft, BitVec.toNat_setWidth_of_le (by decide),
    BitVec.toNat_setWidth_of_le (by decide), Nat.mod_eq_of_lt noOverflow, ← Nat.shiftLeft_add_eq_or_of_lt l.isLt,
    Nat.shiftLeft_eq]

/-! ## The burst (R151, R152) -/

/-- What the decode of a burst writes, in either mode: without colour compensation the blue channels keep their values. -/
theorem State.decodeBurst_eq_setBlues (s : State) (d : Vector Byte 10) : s.decodeBurst d =
    (s.setProxAls (pair d[0] d[1]) (pair d[2] d[3])).setBlues
      (if s.ccMode then pair d[6] d[7] else s.cBlue1) (if s.ccMode then pair d[8] d[9] else s.cBlue2) := by
  unfold State.decodeBurst
  cases mode : s.ccMode <;> simp only [State.setProxAls_ccMode, mode] <;> rfl

/-- The block with the cache that an UPDATE with this reply leaves (R152). -/
def State.updatedBy (s : State) : ReadReply → State
  | .nack => s
  | .data d => s.decodeBurst d

@[simp] theorem State.updatedBy_nack (s : State) : s.updatedBy .nack = s := rfl

@[simp] theorem State.updatedBy_data (s : State) (d : Vector Byte 10) : s.updatedBy (.data d) = s.decodeBurst d := rfl

/-- UPDATE is one burst read, and the cache its reply gives. -/
theorem exec_update_eq (s : State) : exec .update s = .next (doneWith
    ((s.updatedBy (s.env.replyAt 0)).transact
      [readEntry s s.cfg.measBase (burstLen s.ccMode) (s.env.replyAt 0)] (s.env.dropReplies 1))
    (nackFlag (replyAcked (s.env.replyAt 0)))) := by
  show execUpdate s = _
  rw [execUpdate, memRead_eq]
  cases s.env.replyAt 0 with
  | nack => rfl
  | data d =>
    dsimp only
    rw [State.updatedBy_data, State.decodeBurst_eq_setBlues, State.decodeBurst_eq_setBlues]
    rfl

/-- Settles O26: the two cases are the two replies the one read can have. -/
theorem updateDecodesOneBurst : Obligations.UpdateDecodesOneBurst := by
  refine ⟨rowDecodes_of_row (o := 0x20#8) (use := .unused) rfl, fun s => ⟨fun nacked => ?_, fun d acked => ?_⟩⟩
  · rw [exec_update_eq, nacked]
    rfl
  · rw [exec_update_eq, acked, State.updatedBy_data, State.decodeBurst_eq_setBlues]
    refine ⟨_, _, _, _, rfl, pairIsBigEndian _ _, pairIsBigEndian _ _, fun on => ?_, fun off => ?_⟩
    · simp [on, pairIsBigEndian _ _]
    · simp [off]

/-! ## The blue channels without colour compensation (R152) -/

/-- Whatever leaves the cache and does not turn colour compensation off. -/
theorem CacheInv.of_sameCache {s t : State} (inv : CacheInv s) (same : sameCache s t)
    (mode : t.ccMode = false → s.ccMode = false) : CacheInv t where
  bluesZero off := by
    obtain ⟨-, -, blue1, blue2⟩ := same
    rw [blue1, blue2]
    exact inv.bluesZero (mode off)

theorem CacheInv.setEnv {s : State} (inv : CacheInv s) (e : Env) : CacheInv (s.setEnv e) :=
  inv.of_sameCache (sameCache_refl s) id

/-- With colour compensation off, a burst does not reach the blue channels. -/
theorem CacheInv.updatedBy {s : State} (inv : CacheInv s) (r : ReadReply) : CacheInv (s.updatedBy r) := by
  cases r with
  | nack => exact inv
  | data d =>
    rw [State.updatedBy_data, State.decodeBurst_eq_setBlues]
    refine ⟨fun off => ?_⟩
    have before : s.ccMode = false := off
    simpa [before] using inv.bluesZero before

theorem CacheInv.execUpdate {s t : State} (inv : CacheInv s) (answers : exec .update s = .next t) : CacheInv t := by
  cases (exec_update_eq s).symm.trans answers
  exact (inv.updatedBy _).of_sameCache (sameCache_refl _) id

/-- Only UPDATE writes the cache, and no command turns colour compensation off. -/
theorem CacheInv.exec {s t : State} {i : Instr} (inv : CacheInv s) (answers : exec i s = .next t) : CacheInv t := by
  by_cases isUpdate : i = .update
  · subst isUpdate
    exact inv.execUpdate answers
  · have leaves := CommandLeaves.of_exec answers
    refine inv.of_sameCache (leaves.sameCache_of_ne_update isUpdate) fun off => ?_
    rcases leaves.ccMode_eq with kept | ⟨-, on⟩
    · exact kept.symm.trans off
    · exact absurd (on.symm.trans off) (by decide)

theorem Works.keeps_cacheInv {s v u : State} (works : Works s v u) (inv : CacheInv s) : CacheInv u := by
  have started (rest : List HostEvent) : CacheInv (accepted s rest) := inv.of_sameCache (sameCache_refl s) id
  cases works with
  | accepts w rest i _ presents legal answers => exact (started rest).exec answers
  | rejects w rest => exact (started rest).of_sameCache (sameCache_refl _) id
  | resumes c =>
    have same := (resumeCommand_pollsTo c s).sameRegisters
    exact inv.of_sameCache same.cache same.mode.symm.trans

/-- Settles O57, along what a step leaves; a reset clears the blue channels with the mode (R35). -/
theorem stepKeepsCacheInvariant : Obligations.StepKeepsCacheInvariant := by
  intro s t inv taken
  rcases step_leaves taken with rfl | ⟨-, reset⟩ | ⟨v, u, e, works, rfl⟩
  · exact inv
  · rw [reset]
    exact (CacheInv.powerOn s.cfg).setEnv t.env
  · exact (works.keeps_cacheInv inv).setEnv e

/-! ## The raw getters (R153 to R156) -/

section Getters

variable (s : State)

theorem exec_getProxRaw_eq : exec .getProxRaw s = .next (s.answer s.cProx) := rfl
theorem exec_getAlsRaw_eq : exec .getAlsRaw s = .next (s.answer s.cAls) := rfl
theorem exec_getBlue1Raw_eq : exec .getBlue1Raw s = .next (s.answer s.cBlue1) := rfl
theorem exec_getBlue2Raw_eq : exec .getBlue2Raw s = .next (s.answer s.cBlue2) := rfl

theorem State.answer_rspData (v : Half) : (s.answer v).rspData = v := rfl

end Getters

/-- Settles O27: a getter is an answer, with the cache register as its value. -/
theorem rawGettersAnswerTheCache : Obligations.RawGettersAnswerTheCache := by
  refine ⟨rowDecodes_of_row (o := 0x21#8) (use := .unused) rfl, rowDecodes_of_row (o := 0x22#8) (use := .unused) rfl,
    rowDecodes_of_row (o := 0x23#8) (use := .unused) rfl, rowDecodes_of_row (o := 0x24#8) (use := .unused) rfl,
    fun s => ?_⟩
  simp [exec_getProxRaw_eq, exec_getAlsRaw_eq, exec_getBlue1Raw_eq, exec_getBlue2Raw_eq, answer_eq]

/-! ## The inputs a work leaves -/

theorem AppendsAndDraws.events_eq {s t : State} (so : AppendsAndDraws s t) : t.env.events = s.env.events := by
  obtain ⟨new, -, env⟩ := so
  rw [env, Env.events_dropEntries]

theorem Works.appendsAndDraws {s v u : State} (works : Works s v u) : AppendsAndDraws v u := by
  cases works with
  | accepts w rest i _ presents legal answers => exact .of_exec answers
  | rejects => exact (AppendsAndDraws.refl _).of_same rfl rfl
  | resumes c => exact AppendsAndDraws.pollLoop (r := ⟨c.flags, s⟩) _ (.refl s) c.addr

/-- Work takes at most the word it accepts from the host's events. -/
theorem Works.events_subset {s v u : State} (works : Works s v u) : u.env.events ⊆ s.env.events := by
  rw [works.appendsAndDraws.events_eq]
  have afterWord {w : CmdWord} {rest : List HostEvent} (presents : Presents s w rest) : rest ⊆ s.env.events := by
    simp [presents.pending]
  cases works with
  | accepts w rest i _ presents => exact afterWord presents
  | rejects w rest e presents => exact afterWord presents
  | resumes => exact List.Subset.refl _

/-! ## Steps without an UPDATE and without a reset (R157) -/

/-- Every event the host has yet to present is a word, and none is an UPDATE. -/
def NoUpdateAhead (events : List HostEvent) : Prop := ∀ x ∈ events, ∃ w, x = .command w ∧ decode w ≠ .ok .update

theorem NoUpdateAhead.mono {events fewer : List HostEvent} (quiet : NoUpdateAhead events) (subset : fewer ⊆ events) :
    NoUpdateAhead fewer :=
  fun x listed => quiet x (subset listed)

theorem NoUpdateAhead.resetNext {events : List HostEvent} (quiet : NoUpdateAhead events) : resetNext events = false := by
  cases events with
  | nil => rfl
  | cons x rest =>
    obtain ⟨w, rfl, -⟩ := quiet x List.mem_cons_self
    rfl

theorem NoUpdateAhead.not_resetTaken {s t : State} (quiet : NoUpdateAhead s.env.events) : ¬ ResetTaken s t := by
  rintro ⟨next | behind, -⟩
  · simp [quiet.resetNext] at next
  · simp [(quiet.mono (List.tail_subset _)).resetNext] at behind

theorem sameCache_trans {s t u : State} (first : sameCache s t) (second : sameCache t u) : sameCache s u := by
  obtain ⟨prox, als, blue1, blue2⟩ := first
  obtain ⟨prox', als', blue1', blue2'⟩ := second
  exact ⟨prox'.trans prox, als'.trans als, blue1'.trans blue1, blue2'.trans blue2⟩

/-- `t` has the cache of `u`, and nothing is ahead of it that could change it. -/
def KeepsCacheOf (u t : State) : Prop := NoUpdateAhead t.env.events ∧ sameCache u t

theorem KeepsCacheOf.step {u s t : State} (keeps : KeepsCacheOf u s) (taken : step s = .next t) : KeepsCacheOf u t := by
  obtain ⟨quiet, same⟩ := keeps
  constructor
  · obtain ⟨-, rfl | ⟨-, next, -⟩ | ⟨v, w, works, ⟨-, rfl⟩ | ⟨n, rest, events, -⟩⟩⟩ := step_cases taken
    · exact quiet
    · simp [quiet.resetNext] at next
    · exact quiet.mono works.events_subset
    · have ahead := quiet.mono works.events_subset
      rw [works.appendsAndDraws.events_eq, events] at ahead
      cases ahead.resetNext
  · have noUpdate (w : CmdWord) (head : s.env.events.head? = some (.command w)) : decode w ≠ .ok .update := by
      obtain ⟨w', word, other⟩ := quiet _ (List.mem_of_head? head)
      cases word
      exact other
    exact sameCache_trans same
      ((onlyUpdateChangesTheCache.2 s t taken fun _ => noUpdate).resolve_left quiet.not_resetTaken)

/-- A run of one step more is a step, and the run from the state it leaves. -/
theorem exists_step_of_run_succ {M : Host.Core} {s t : M.State} {n : Nat} (ran : M.run (n + 1) s = .next t) :
    ∃ s', M.step s = .next s' ∧ M.run n s' = .next t := by
  rw [Host.Core.run] at ran
  cases taken : M.step s with
  | next s' => exact ⟨s', rfl, by simpa only [taken] using ran⟩
  | fault r => simp [taken] at ran
  | refused r => simp [taken] at ran

/-- What every step keeps holds after any number of them. -/
theorem run_keeps {M : Host.Core} {P : M.State → Prop} (keeps : ∀ s t, P s → M.step s = .next t → P t) (n : Nat)
    {s t : M.State} (holds : P s) (ran : M.run n s = .next t) : P t := by
  induction n generalizing s with
  | zero =>
    cases ran
    exact holds
  | succ n ih =>
    obtain ⟨s', taken, ran⟩ := exists_step_of_run_succ ran
    exact ih (keeps s s' holds taken) ran

theorem sameCache_of_update {s u : State} {d : Vector Byte 10} (acked : s.env.replyAt 0 = .data d)
    (updated : exec .update s = .next u) : sameCache (s.decodeBurst d) u := by
  rw [exec_update_eq, acked] at updated
  cases updated
  exact sameCache_refl _

theorem getter_answers_pair {i : Instr} {t : State} {v : Half} {h l : Byte} (answers : exec i t = .next (t.answer v))
    (decoded : v = pair h l) : ∃ x, exec i t = .next x ∧ x.rspData.toNat = h.toNat * 256 + l.toNat := by
  refine ⟨t.answer v, answers, ?_⟩
  rw [State.answer_rspData, decoded, pairIsBigEndian]

/-- Settles O29: every step keeps the cache that UPDATE left, and the getters answer it. -/
theorem gettersAnswerTheLastUpdate : Obligations.GettersAnswerTheLastUpdate := by
  intro s u t d n acked updated quiet ran
  have ahead : NoUpdateAhead u.env.events := by
    rw [(AppendsAndDraws.of_exec updated).events_eq]
    exact quiet
  obtain ⟨-, kept⟩ : KeepsCacheOf u t := run_keeps (M := core) (fun _ _ => KeepsCacheOf.step) n ⟨ahead, sameCache_refl u⟩ ran
  obtain ⟨prox, als, blue1, blue2⟩ := sameCache_trans (sameCache_of_update acked updated) kept
  rw [State.decodeBurst_eq_setBlues] at prox als blue1 blue2
  refine ⟨getter_answers_pair (exec_getProxRaw_eq t) prox, getter_answers_pair (exec_getAlsRaw_eq t) als, fun on => ?_⟩
  simp only [State.setBlues_cBlue1, State.setBlues_cBlue2, on, if_true] at blue1 blue2
  exact ⟨getter_answers_pair (exec_getBlue1Raw_eq t) blue1, getter_answers_pair (exec_getBlue2Raw_eq t) blue2⟩

end Sys2Proof.Machine
end

section
/-! The on-demand handshake (spec/43_on_demand.md R170 to R175): the final read, the whole of the poll loop by its three
outcomes, and from these the two commands, a resumed command, and the loop that ends only by the flag or the deadline. -/

namespace Sys2Proof.Machine

open Sys2Proof

/-! ## The final read (R171) -/

/-- What the final read puts into `RESULT`, as the rules write the pair (R150, R171). -/
theorem finalResult_data (s : State) (d : Vector Byte 10) : finalResult s (.data d) = pair d[0] d[1] := by
  rw [finalResult, ← pairIsBigEndian, BitVec.ofNat_toNat, BitVec.setWidth_eq]

/-- The final read, whole, by its reply: one entry, the value that reply gives `RESULT`, and BUS_ERR if it is not
acknowledged. -/
theorem Run.finalRead_eq_doneWith (f : Flags) (s : State) (h : Byte) : Run.finalRead ⟨f, s⟩ h = doneWith
    ((s.setResult (finalResult s (s.env.replyAt 0))).transact [readEntry s h 2 (s.env.replyAt 0)] (s.env.dropReplies 1))
    (f ||| nackFlag (replyAcked (s.env.replyAt 0))) := by
  rw [Run.finalRead_eq]
  dsimp only
  cases s.env.replyAt 0 with
  | nack => rfl
  | data d =>
    rw [finalResult_data, replyAcked, or_nackFlag_true]
    rfl

/-! ## The poll loop, by its outcomes (R171, R175) -/

/-- Round `j` goes on, in the words of the statements about a resumed command. -/
theorem roundGoesOn_iff_resumed (s : State) (j : Nat) : roundGoesOn s j ↔ resumedPollGoesOn s j := by
  rw [roundGoesOn, resumedPollGoesOn, ← pastDeadline_iff, Bool.not_eq_true]

/-- Round `j` ends the loop by the flag or by the time, or it goes on. -/
theorem not_roundGoesOn_iff (s : State) (j : Nat) : ¬ roundGoesOn s j ↔
    (pollDone (s.env.replyAt j) = true ∨ 1000 < (s.env.clockAt j - s.t0).toNat) := by
  rw [roundGoesOn, ← pastDeadline_iff, Classical.not_and_iff_not_or_not, Bool.not_eq_false, Bool.not_eq_false]

theorem roundEntries_succ (s : State) (k : Nat) : roundEntries s (k + 1) =
    roundEntries s k ++ [readEntry s s.cfg.aCmd 1 (s.env.replyAt k), .clock (s.env.clockAt k)] := by
  simp [roundEntries, List.range_succ]

theorem roundsAcked_succ (s : State) (k : Nat) :
    roundsAcked s (k + 1) = (roundsAcked s k && replyAcked (s.env.replyAt k)) := by
  simp [roundsAcked, List.range_succ]

/-- One round more, after `k` of them. -/
theorem afterRound_afterRounds (s : State) (k : Nat) : afterRound (afterRounds s k) = afterRounds s (k + 1) := by
  rw [afterRound_eq]
  simp [afterRounds, roundEntries_succ, readEntry]

section Outcomes

variable {s : State} {h : Byte} {f : Flags} {n k : Nat}

/-- The first `k` rounds go on and the next one sees the flag: that poll and the final read are all that is left. -/
theorem pollLoop_of_flag (within : k < n) (go : ∀ j < k, roundGoesOn s j) (seen : pollDone (s.env.replyAt k) = true) :
    pollLoop n h ⟨f, s⟩ = doneWith
      { s with
        hsState := .ready, result := finalResult s (s.env.replyAt (k + 1))
        log := s.log ++ roundEntries s k ++
          [readEntry s s.cfg.aCmd 1 (s.env.replyAt k), readEntry s h 2 (s.env.replyAt (k + 1))]
        env := (s.env.dropReplies (k + 2)).dropClocks k }
      (f ||| nackFlag (roundsAcked s k && replyAcked (s.env.replyAt (k + 1)))) := by
  obtain ⟨m, rfl⟩ : ∃ m, n = k + (m + 1) := ⟨n - k - 1, by omega⟩
  have seenHere : pollDone ((afterRounds s k).env.replyAt 0) = true := by simpa [afterRounds] using seen
  rw [pollLoop_goes_on k (m + 1) h s f go, pollLoop_succ, if_pos seenHere, Run.finalRead_eq_doneWith,
    or_nackFlag_nackFlag, afterPoll_eq]
  simp [afterRounds, State.setHs, State.setResult, State.transact, readEntry, finalResult]

/-- The first `k` rounds go on and the sample of the next one is past the deadline, with no flag before it: TIMEOUT, and the
final read all the same. -/
theorem pollLoop_of_deadline (within : k < n) (go : ∀ j < k, roundGoesOn s j)
    (unseen : pollDone (s.env.replyAt k) = false) (late : 1000 < (s.env.clockAt k - s.t0).toNat) :
    pollLoop n h ⟨f, s⟩ = doneWith
      { s with
        hsState := .timedOut, result := finalResult s (s.env.replyAt (k + 1))
        log := s.log ++ roundEntries s (k + 1) ++ [readEntry s h 2 (s.env.replyAt (k + 1))]
        env := (s.env.dropReplies (k + 2)).dropClocks (k + 1) }
      (f ||| (timeoutErr ||| nackFlag (roundsAcked s (k + 1) && replyAcked (s.env.replyAt (k + 1))))) := by
  obtain ⟨m, rfl⟩ : ∃ m, n = k + (m + 1) := ⟨n - k - 1, by omega⟩
  have unseenHere : ¬ pollDone ((afterRounds s k).env.replyAt 0) = true := by simpa [afterRounds] using unseen
  have lateHere : pastDeadline ((afterRounds s k).env.clockAt 0) (afterRounds s k).t0 = true := by
    simpa [afterRounds, pastDeadline_iff] using late
  have ackedHere : replyAcked ((afterRounds s k).env.replyAt 0) = replyAcked (s.env.replyAt k) := by simp [afterRounds]
  rw [pollLoop_goes_on k (m + 1) h s f go, pollLoop_succ, if_neg unseenHere, if_pos lateHere, Run.finalRead_eq_doneWith,
    afterRound_afterRounds, ackedHere, raiseUnlessAcked_eq_or, raiseFlag, or_nackFlag_nackFlag, ← roundsAcked_succ,
    or_nackFlag_late, BitVec.or_assoc, BitVec.or_comm timeoutErr]
  simp [afterRounds, State.setHs, State.setResult, State.transact, readEntry, finalResult]

/-- No round ends the loop: the command stays in flight. -/
theorem pollLoop_of_goes_on (go : ∀ j < n, roundGoesOn s j) : pollLoop n h ⟨f, s⟩ =
    { s with
      cmdReady := false, rspValid := false, inFlight := some ⟨h, f ||| nackFlag (roundsAcked s n)⟩
      log := s.log ++ roundEntries s n
      env := (s.env.dropReplies n).dropClocks n } :=
  pollLoop_goes_on n 0 h s f go

end Outcomes

/-! ## A step of the command in flight (R171, R175) -/

/-- Without a power-on reset next, the command in flight makes as many polls as replies are fixed, and at least one. -/
theorem step_of_inFlight {s : State} {c : InFlight} (sound : s.cfg.wellFormed = true) (flying : s.inFlight = some c)
    (noReset : resetNext s.env.events = false) :
    step s = .next (pollLoop (max 1 s.env.replies.length) c.addr ⟨c.flags, s⟩) := by
  rw [(Works.resumes c sound flying).step_eq, underReset_of_not s _ noReset]
  rfl

/-- Settles O33, by the loop's end at the flag. -/
theorem resumedCommandEndsReady : Obligations.ResumedCommandEndsReady := by
  intro s c k d sound flying noReset within go reply flag
  have seen : pollDone (s.env.replyAt k) = true := by rwa [reply]
  rw [step_of_inFlight sound flying noReset,
    pollLoop_of_flag within (fun j before => (roundGoesOn_iff_resumed s j).2 (go j before)) seen]
  rfl

/-- Settles O34, by the loop's end past the deadline. -/
theorem resumedCommandTimesOut : Obligations.ResumedCommandTimesOut := by
  intro s c k sound flying noReset within go unseen late
  rw [step_of_inFlight sound flying noReset,
    pollLoop_of_deadline within (fun j before => (roundGoesOn_iff_resumed s j).2 (go j before)) unseen late]
  rfl

/-- Settles O35, by the loop that no round ends. -/
theorem resumedCommandHoldsTheBlock : Obligations.ResumedCommandHoldsTheBlock := by
  rintro s c k sound flying noReset rfl go
  rw [step_of_inFlight sound flying noReset,
    pollLoop_of_goes_on fun j before => (roundGoesOn_iff_resumed s j).2 (go j before)]
  rfl

/-! ## The two commands (R171, R172, R173) -/

theorem nackFlag_or_nackFlag (a b : Bool) : nackFlag a ||| nackFlag b = nackFlag (a && b) := by
  rw [← raiseUnlessAcked_eq_or, raiseUnlessAcked_nackFlag]

/-- The block after the trigger of a handshake, in front of the first poll (R171). -/
def State.triggered (s : State) : State :=
  { s with
    hsState := .triggered, t0 := s.env.clockAt 0
    env := (s.env.dropAcks 1).dropClocks 1
    log := s.log ++ [writeEntry s 0 s.cfg.aCmd s.cfg.cmdOndemand, .clock (s.env.clockAt 0)] }

theorem onDemandTrigger_eq_triggered (s : State) : onDemandTrigger s = ⟨nackFlag (s.env.ackAt 0), s.triggered⟩ :=
  onDemandTrigger_eq s

/-- Both commands are the trigger and the poll loop, with their own address for the final read (R172, R173). -/
theorem exec_onDemand_eq (s : State) {p : Instr × Byte} (listed : p ∈ onDemandCommands s.cfg) : exec p.1 s =
    .next (pollLoop (max 1 s.env.replies.length) p.2 ⟨nackFlag (s.env.ackAt 0), s.triggered⟩) := by
  have handshake : exec p.1 s = .next (onDemand p.2 s) := by
    simp only [onDemandCommands, List.mem_cons, List.not_mem_nil, or_false] at listed
    rcases listed with rfl | rfl <;> rfl
  rw [handshake, onDemand, onDemandTrigger_eq_triggered]
  rfl

theorem roundGoesOn_triggered (s : State) (j : Nat) : roundGoesOn s.triggered j ↔ pollGoesOn s j := by
  rw [roundGoesOn_iff_resumed]
  simp [resumedPollGoesOn, pollGoesOn, State.triggered, Nat.add_comm 1]

theorem handshakeLog_eq (s : State) (k : Nat) : handshakeLog s k =
    [writeEntry s 0 s.cfg.aCmd s.cfg.cmdOndemand, .clock (s.env.clockAt 0)] ++ roundEntries s.triggered k := by
  simp [handshakeLog, roundEntries, State.triggered, readEntry, Nat.add_comm 1]

theorem handshakeAcked_eq (s : State) (k : Nat) :
    handshakeAcked s k = (s.env.ackAt 0 && roundsAcked s.triggered k) := by
  simp [handshakeAcked, roundsAcked, State.triggered]

/-- Settles O30, by the loop's end at the flag. -/
theorem onDemandEndsReady : Obligations.OnDemandEndsReady := by
  refine ⟨rowDecodes_of_row (o := 0x28#8) (use := .unused) rfl, rowDecodes_of_row (o := 0x29#8) (use := .unused) rfl, ?_⟩
  intro s p listed k d within go reply flag
  have seen : pollDone (s.triggered.env.replyAt k) = true := by
    simpa [State.triggered, reply, pollDone] using flag
  rw [exec_onDemand_eq s listed,
    pollLoop_of_flag within (fun j before => (roundGoesOn_triggered s j).2 (go j before)) seen, nackFlag_or_nackFlag,
    ← Bool.and_assoc, ← handshakeAcked_eq, handshakeLog_eq]
  simp [State.triggered, readEntry, finalResult, Nat.add_comm 1]

/-- Settles O31, by the loop's end past the deadline. -/
theorem onDemandTimesOut : Obligations.OnDemandTimesOut := by
  intro s p listed k within go unseen late
  have lateHere : 1000 < (s.triggered.env.clockAt k - s.triggered.t0).toNat := by
    simpa [State.triggered, Nat.add_comm 1] using late
  rw [exec_onDemand_eq s listed,
    pollLoop_of_deadline within (fun j before => (roundGoesOn_triggered s j).2 (go j before)) unseen lateHere,
    BitVec.or_comm timeoutErr, ← BitVec.or_assoc, nackFlag_or_nackFlag, ← Bool.and_assoc, ← handshakeAcked_eq,
    handshakeLog_eq, BitVec.or_comm]
  simp [State.triggered, readEntry, finalResult, timeoutErr, Nat.add_comm 1]

/-- Settles O32, by the loop that no round ends. -/
theorem onDemandHoldsTheBlock : Obligations.OnDemandHoldsTheBlock := by
  rintro s p listed k rfl go
  rw [exec_onDemand_eq s listed, pollLoop_of_goes_on fun j before => (roundGoesOn_triggered s j).2 (go j before),
    nackFlag_or_nackFlag, ← handshakeAcked_eq, handshakeLog_eq]
  simp [State.triggered, Nat.add_comm 1]

/-! ## The loop ends only by the flag or the deadline (R175) -/

theorem Run.finalRead_inFlight (f : Flags) (s : State) (h : Byte) : (Run.finalRead ⟨f, s⟩ h).inFlight = none := by
  rw [Run.finalRead_eq_doneWith]
  rfl

/-- Polls end the command exactly if one of them sees the flag, or a sample after one is past the deadline. -/
theorem pollLoop_completes_iff (n : Nat) (h : Byte) (f : Flags) (s : State) : (pollLoop n h ⟨f, s⟩).inFlight = none ↔
    ∃ j < n, pollDone (s.env.replyAt j) = true ∨ 1000 < (s.env.clockAt j - s.t0).toNat := by
  simp only [← not_roundGoesOn_iff]
  rcases pollLoop_cases n h f s with ⟨go, holds⟩ | ⟨j, within, -, seen, ready⟩ | ⟨j, within, -, -, past, timedOut⟩
  · rw [holds]
    simpa using go
  · rw [ready]
    exact iff_of_true (Run.finalRead_inFlight _ _ _) ⟨j, within, fun goes => by simp [goes.1] at seen⟩
  · rw [timedOut]
    exact iff_of_true (Run.finalRead_inFlight _ _ _) ⟨j, within, fun goes => by simp [goes.2] at past⟩

/-- A command that the loop has ended has responded, READY or TIMED_OUT, and then with TIMEOUT (R171, R203). -/
theorem PollsTo.completed {s t : State} {h : Byte} {f : Flags} (loop : PollsTo s h f t) (completed : t.inFlight = none) :
    t.cmdReady = true ∧ t.rspValid = true ∧
      (t.hsState = .ready ∨ (t.hsState = .timedOut ∧ t.rspFlags.getLsbD 1 = true)) := by
  cases loop with
  | holds new e acked => cases completed
  | ends new e acked v hs late ending =>
    refine ⟨rfl, rfl, ?_⟩
    rcases ending with ⟨rfl, -⟩ | ⟨rfl, rfl⟩
    · exact .inl rfl
    · exact .inr ⟨rfl, by simp [timeoutErr]⟩

/-- A command that the loop has not ended holds the block as it did (R175). -/
theorem PollsTo.holding {s t : State} {h : Byte} {f : Flags} (loop : PollsTo s h f t) (flying : t.inFlight ≠ none) :
    t.cmdReady = false ∧ t.rspValid = false ∧ t.hsState = s.hsState ∧ t.sticky = s.sticky ∧ t.result = s.result ∧
      t.inFlight.map InFlight.addr = some h := by
  cases loop with
  | holds new e acked => exact ⟨rfl, rfl, rfl, rfl, rfl, rfl⟩
  | ends => exact absurd rfl flying

/-- Settles O36: the step is the poll loop, which one of its rounds ends or none does. -/
theorem pollingEndsOnlyByFlagOrDeadline : Obligations.PollingEndsOnlyByFlagOrDeadline := by
  intro s c sound flying noReset
  have loop := pollLoop_pollsTo (max 1 s.env.replies.length) c.addr c.flags s
  have events := (AppendsAndDraws.pollLoop (r := ⟨c.flags, s⟩) (max 1 s.env.replies.length) (.refl s) c.addr).events_eq
  exact ⟨_, step_of_inFlight sound flying noReset, events, loop.t0_eq, pollLoop_completes_iff _ _ _ s, loop.completed,
    loop.holding⟩

/-! ## Once the clock passes the deadline (R175, R239) -/

theorem run_succ_of_step {M : Host.Core} {s t : M.State} (taken : M.step s = .next t) (m : Nat) :
    M.run (m + 1) s = M.run m t := by
  rw [Host.Core.run, taken]

/-- A step that does not complete the command: `T0` stays, and as many samples are used up as polls are made. -/
theorem step_of_goes_on {s : State} {c : InFlight} (sound : s.cfg.wellFormed = true) (flying : s.inFlight = some c)
    (noReset : resetNext s.env.events = false) (go : ∀ j < max 1 s.env.replies.length, resumedPollGoesOn s j) :
    ∃ t, step s = .next t ∧ t.cfg = s.cfg ∧ t.inFlight ≠ none ∧ t.env.events = s.env.events ∧ t.t0 = s.t0 ∧
      ∀ j, t.env.clockAt j = s.env.clockAt (max 1 s.env.replies.length + j) :=
  ⟨_, resumedCommandHoldsTheBlock s c _ sound flying noReset rfl go, rfl, Option.some_ne_none _, rfl, rfl,
    fun j => by simp⟩

/-- Settles O37, by induction on the samples still to come: a step that does not complete the command has used up at least
one of them, and not the one that passes the deadline. -/
theorem pollingEndsOnceTheClockPasses : Obligations.PollingEndsOnceTheClockPasses := by
  intro n
  induction n using Nat.strong_induction_on with
  | _ n ih =>
    intro s sound inFlight noReset late
    obtain ⟨c, flying⟩ := Option.ne_none_iff_exists'.1 inFlight
    by_cases go : ∀ j < max 1 s.env.replies.length, resumedPollGoesOn s j
    · have beyond : max 1 s.env.replies.length ≤ n := Nat.le_of_not_lt fun within => (go n within).2 late
      obtain ⟨u, taken, cfg, stillFlying, events, t0, clock⟩ := step_of_goes_on sound flying noReset go
      obtain ⟨m, few, t, ran, done⟩ := ih (n - max 1 s.env.replies.length) (by omega) u (by rwa [cfg]) stillFlying
        (by rwa [events]) (by rwa [clock, t0, Nat.add_sub_cancel' beyond])
      exact ⟨m + 1, by omega, t, (run_succ_of_step (M := core) taken m).trans ran, done⟩
    · obtain ⟨t, taken, -, -, completes, responds, -⟩ := pollingEndsOnlyByFlagOrDeadline s c sound flying noReset
      have completed : t.inFlight = none := by
        simp only [← roundGoesOn_iff_resumed, not_forall] at go
        obtain ⟨j, within, ends⟩ := go
        exact completes.2 ⟨j, within, (not_roundGoesOn_iff s j).1 ends⟩
      exact ⟨1, by omega, t, run_succ_of_step (M := core) taken 0, completed, (responds completed).2.1⟩

/-! ## Polling without end (R175) -/

/-- A counter that has no advance ahead stands still. -/
theorem Env.counterAfter_of_no_advance (e : Env) {k : Nat} (still : ∀ j < k, e.advanceAt j = 0) :
    e.counterAfter k = e.now := by
  induction k with
  | zero => rfl
  | succ k ih => rw [Env.counterAfter, ih fun j before => still j (by omega), still k (by omega), Nat.add_zero]

/-- The reset state in front of a device that answers none of `polls` polls, while the clock stands still. -/
def State.unanswered (polls : Nat) : State :=
  { State.reset with
    env := { Env.empty with replies := .replicate polls .nack, advances := .replicate (polls + 1) 0 } }

theorem State.unanswered_wellFormed (polls : Nat) : (State.unanswered polls).cfg.wellFormed = true :=
  (by decide : Config.ref.wellFormed = true)

theorem State.unanswered_replyAt {polls j : Nat} (within : j < polls) :
    (State.unanswered polls).env.replyAt j = .nack := by
  simp [State.unanswered, Env.replyAt, within]

theorem State.unanswered_clockAt {polls j : Nat} (within : j ≤ polls) : (State.unanswered polls).env.clockAt j = 0#32 := by
  have still : ∀ i < j + 1, (State.unanswered polls).env.advanceAt i = 0 := by
    intro i before
    have given : i < polls + 1 := by omega
    simp [State.unanswered, Env.advanceAt, given]
  rw [Env.clockAt, Env.counterAfter_of_no_advance _ still]
  rfl

/-- No poll ends the loop of R171. -/
theorem State.unanswered_pollGoesOn {polls j : Nat} (within : j < polls) : pollGoesOn (State.unanswered polls) j := by
  rw [pollGoesOn, State.unanswered_replyAt within, State.unanswered_clockAt (by omega),
    State.unanswered_clockAt (Nat.zero_le _)]
  exact ⟨rfl, by decide⟩

/-- Settles O53: as many polls as replies are fixed, and none of them is answered in time. -/
theorem pollingMayGoOnWithoutEnd : Obligations.PollingMayGoOnWithoutEnd := by
  intro n i onDemand
  obtain ⟨h, listed⟩ : ∃ h, (i, h) ∈ onDemandCommands (State.unanswered (n + 1)).cfg := by
    simp only [List.mem_cons, List.not_mem_nil, or_false] at onDemand
    rcases onDemand with rfl | rfl
    · exact ⟨_, .head _⟩
    · exact ⟨_, .tail _ (.head _)⟩
  have polls : n + 1 = max 1 (State.unanswered (n + 1)).env.replies.length := by simp [State.unanswered]
  have holds := onDemandHoldsTheBlock (State.unanswered (n + 1)) (i, h) listed (n + 1) polls
    fun j within => State.unanswered_pollGoesOn within
  exact ⟨_, _, State.unanswered_wellFormed _, rfl, rfl, holds, Option.some_ne_none _, rfl, rfl⟩

end Sys2Proof.Machine
end

section
/-! The accessors (spec/44_accessors.md R190 to R195): each is one answer, with a value that is read off the state; and the
values, which are the factor table (R27), the shadows and the fields of STATUS (R33). -/

namespace Sys2Proof.Machine

open Sys2Proof

/-! ## The commands, in one equation each -/

section Accessors

variable (s : State)

theorem exec_getGainFactor_eq : exec .getGainFactor s = .next (s.answer (gfX100 s.gfSel)) := rfl
theorem exec_readShProx_eq : exec .readShProx s = .next (s.answer (s.shProx.setWidth 16)) := rfl
theorem exec_readShIred_eq : exec .readShIred s = .next (s.answer (s.shIred.setWidth 16)) := rfl
theorem exec_readShAls_eq : exec .readShAls s = .next (s.answer (s.shAls.setWidth 16)) := rfl
theorem exec_readShInt_eq : exec .readShInt s = .next (s.answer (s.shInt.setWidth 16)) := rfl
theorem exec_getStatus_eq : exec .getStatus s = .next (s.answer (statusWord s)) := rfl

end Accessors

/-! ## The gain factor (R27, R190) -/

/-- The factors of R27, listed in the order of the gain entries' numbers. -/
theorem getElem?_gainIndex_eq_gfX100 (g : GainEntry) :
    [8179, 2217, 602, 75][(gainIndex g).toNat]? = some (gfX100 g).toNat := by
  cases g <;> rfl

/-- Settles O38: the answer is the entry of R27's table. -/
theorem getGainFactorAnswersTheTable : Obligations.GetGainFactorAnswersTheTable := by
  refine ⟨rowDecodes_of_row (o := 0x30#8) (use := .unused) rfl,
    fun s => ⟨gfX100 s.gfSel, ?_, getElem?_gainIndex_eq_gfX100 s.gfSel⟩⟩
  rw [exec_getGainFactor_eq, answer_eq]

/-! ## The shadows (R191 to R194) -/

/-- Settles O39: the zero extension keeps the number that the shadow is, and the answer is the command's own. -/
theorem readShadowsAnswerTheShadows : Obligations.ReadShadowsAnswerTheShadows := by
  refine ⟨rowDecodes_of_row (o := 0x31#8) (use := .unused) rfl, rowDecodes_of_row (o := 0x32#8) (use := .unused) rfl,
    rowDecodes_of_row (o := 0x33#8) (use := .unused) rfl, rowDecodes_of_row (o := 0x34#8) (use := .unused) rfl,
    fun s p listed => ⟨p.2.setWidth 16, BitVec.toNat_setWidth_of_le (by decide), ?_⟩⟩
  rw [← answer_eq]
  simp only [List.mem_cons, List.not_mem_nil, or_false] at listed
  rcases listed with rfl | rfl | rfl | rfl
  · exact exec_readShProx_eq s
  · exact exec_readShIred_eq s
  · exact exec_readShAls_eq s
  · exact exec_readShInt_eq s

/-! ## The fields of STATUS (R33) -/

theorem statusWord_sticky (s : State) : (statusWord s).extractLsb' 0 4 = s.sticky := by
  rw [statusWord, BitVec.extractLsb'_setWidth_of_le (by decide), BitVec.extractLsb'_append_eq_right]

theorem statusWord_ccMode (s : State) : (statusWord s).getLsbD 4 = s.ccMode := by
  simp only [statusWord, BitVec.getLsbD_setWidth, BitVec.getLsbD_append]
  simp

/-- Above `STICKY` and `CC_MODE`, STATUS holds the two numbers, and the zeros of its extension above them. -/
theorem statusWord_extractLsb'_above_ccMode (s : State) {start len : Nat} (above : 5 ≤ start) (within : start + len ≤ 16) :
    (statusWord s).extractLsb' start len = (hsIndex s.hsState ++ gainIndex s.gfSel).extractLsb' (start - 5) len := by
  rw [statusWord, BitVec.extractLsb'_setWidth_of_le within, BitVec.extractLsb'_append_eq_of_le (by omega),
    BitVec.extractLsb'_append_eq_of_le (by omega), Nat.sub_sub]

theorem statusWord_gfSel (s : State) : (statusWord s).extractLsb' 5 2 = gainIndex s.gfSel := by
  rw [statusWord_extractLsb'_above_ccMode s (by decide) (by decide), Nat.sub_self, BitVec.extractLsb'_append_eq_right]

theorem statusWord_hsState (s : State) : (statusWord s).extractLsb' 7 2 = hsIndex s.hsState := by
  rw [statusWord_extractLsb'_above_ccMode s (by decide) (by decide), BitVec.extractLsb'_append_eq_left]

theorem statusWord_reserved (s : State) : (statusWord s).extractLsb' 9 7 = 0#7 := by
  rw [statusWord_extractLsb'_above_ccMode s (by decide) (by decide)]
  ext k
  simp

/-- Settles O40: the view is read before the response, which adds no flag to `STICKY`. -/
theorem getStatusAnswersTheView : Obligations.GetStatusAnswersTheView := by
  refine ⟨rowDecodes_of_row (o := 0x35#8) (use := .unused) rfl, fun s => ⟨statusWord s, ?_, statusWord_sticky s,
    statusWord_ccMode s, statusWord_gfSel s, statusWord_hsState s, statusWord_reserved s⟩⟩
  rw [exec_getStatus_eq, answer_eq]

end Sys2Proof.Machine
end

section
/-! The statements of spec/60_exceptions.md about how a command ends (R200, R206, R207, R210): it completes unless it is an
on-demand command that still polls; and its flags are those its family can raise. -/

namespace Sys2Proof.Machine

open Sys2Proof

/-! ## Every command goes on (R207, R210) -/

theorem onDemand_of_opcode {i : Instr} (listed : opcodeOf i ∈ onDemandOpcodes) : i = .ondemandProx ∨ i = .ondemandAls := by
  cases i with
  | ondemandProx => exact .inl rfl
  | ondemandAls => exact .inr rfl
  | _ => simp [opcodeOf, onDemandOpcodes] at listed

/-- What is left without a poll loop is left by a response. -/
theorem CommandLeaves.completed {s t : State} {i : Instr} (leaves : CommandLeaves s i t) (notProx : i ≠ .ondemandProx)
    (notAls : i ≠ .ondemandAls) : t.inFlight = none ∧ t.cmdReady = true ∧ t.rspValid = true := by
  cases leaves with
  | polls i onDemand => exact ((onDemand_of_opcode onDemand).elim notProx notAls).elim
  | refuses | answers | writesField | begins | enablesCc | updates => exact ⟨rfl, rfl, rfl⟩

/-- Settles O43: a command answers, and what it leaves is complete by its family. -/
theorem everyCommandGoesOn : Obligations.EveryCommandGoesOn := by
  intro i s
  obtain ⟨t, answers⟩ := exec_answers i s
  exact ⟨t, answers, (CommandLeaves.of_exec answers).completed⟩

/-! ## The flags of a completed command (R206) -/

/-- A poll loop that has ended adds BUS_ERR, TIMEOUT, both or neither to the acknowledgement of the trigger (R171). -/
theorem PollsTo.rspFlags_cases {s t : State} {h : Byte} {triggerAcked : Bool} (loop : PollsTo s h (nackFlag triggerAcked) t)
    (completed : t.inFlight = none) :
    ∃ acked, t.rspFlags = nackFlag acked ∨ t.rspFlags = nackFlag acked ||| timeoutErr := by
  cases loop with
  | holds new e acked => simp at completed
  | ends new e acked v hs late ending =>
    refine ⟨triggerAcked && acked, ?_⟩
    rw [State.respond_rspFlags, nackFlag_or_nackFlag]
    rcases ending with ⟨-, rfl⟩ | ⟨-, rfl⟩
    · exact .inl BitVec.or_zero
    · exact .inr rfl

/-- INVALID_OPERAND alone; what the acknowledgements give; or, of an on-demand command, that with TIMEOUT. -/
theorem CommandLeaves.rspFlags_cases {s t : State} {i : Instr} (leaves : CommandLeaves s i t)
    (completed : t.inFlight = none) :
    t.rspFlags = invalidOperand ∨
      ∃ acked, t.rspFlags = nackFlag acked ∨ opcodeOf i ∈ onDemandOpcodes ∧ t.rspFlags = nackFlag acked ||| timeoutErr := by
  cases leaves with
  | refuses => exact .inl rfl
  | answers => exact .inr ⟨true, .inl rfl⟩
  | writesField | begins | enablesCc | updates => exact .inr ⟨_, .inl rfl⟩
  | polls i onDemand t0 new e acked h _ loop =>
    obtain ⟨acked, flags⟩ := loop.rspFlags_cases completed
    exact .inr ⟨acked, flags.imp_right fun late => ⟨onDemand, late⟩⟩

/-- The values of R206, without ILLEGAL_CMD, which is for a word that is no command. -/
theorem CommandLeaves.rspFlags_mem {s t : State} {i : Instr} (leaves : CommandLeaves s i t)
    (completed : t.inFlight = none) : t.rspFlags ∈ [0b0000#4, 0b0001#4, 0b0010#4, 0b0011#4, 0b1000#4] := by
  rcases leaves.rspFlags_cases completed with flags | ⟨acked, flags | ⟨-, flags⟩⟩ <;> rw [flags]
  · decide
  · cases acked <;> decide
  · cases acked <;> decide

theorem CommandLeaves.onDemand_of_timeout {s t : State} {i : Instr} (leaves : CommandLeaves s i t)
    (completed : t.inFlight = none) (timeout : t.rspFlags.getLsbD 1 = true) : opcodeOf i ∈ onDemandOpcodes := by
  rcases leaves.rspFlags_cases completed with flags | ⟨acked, flags | ⟨onDemand, -⟩⟩
  · exact absurd timeout (by rw [flags]; decide)
  · exact absurd timeout (by rw [flags]; cases acked <;> decide)
  · exact onDemand

/-! ## Only a transaction can raise BUS_ERR (R200, R202) -/

theorem exec_colorCompEn_log_ne {p : BitVec 1} {s t : State} (answers : exec (.colorCompEn p) s = .next t) :
    t.log ≠ s.log := by
  cases (exec_colorCompEn_eq p s).symm.trans answers
  simp [doneWith]

theorem exec_update_log_ne {s t : State} (answers : exec .update s = .next t) : t.log ≠ s.log := by
  cases (exec_update_eq s).symm.trans answers
  cases s.env.replyAt 0 <;> simp [doneWith, State.decodeBurst_eq_setBlues]

/-- The log has the trigger's write before the loop begins, and the loop only appends. -/
theorem exec_onDemand_log_ne {s t : State} {p : Instr × Byte} (listed : p ∈ onDemandCommands s.cfg)
    (answers : exec p.1 s = .next t) : t.log ≠ s.log := by
  cases (exec_onDemand_eq s listed).symm.trans answers
  obtain ⟨new, log, -⟩ : AppendsAndDraws s.triggered
      (pollLoop (max 1 s.env.replies.length) p.2 ⟨nackFlag (s.env.ackAt 0), s.triggered⟩) :=
    .pollLoop _ (.refl s.triggered) p.2
  rw [log]
  simp [State.triggered]

/-- A refused operand and a reader raise no BUS_ERR, and every other command logs a transaction. -/
theorem exec_log_ne_of_busErr {s t : State} {i : Instr} (answers : exec i s = .next t)
    (raised : t.rspFlags.getLsbD 0 = true) : t.log ≠ s.log := by
  cases CommandLeaves.of_exec answers with
  | refuses => exact absurd raised (by simp [invalidOperand])
  | answers => exact absurd raised (by simp)
  | writesField | begins => simp
  | enablesCc p => exact exec_colorCompEn_log_ne answers
  | updates => exact exec_update_log_ne answers
  | polls i onDemand =>
    rcases onDemand_of_opcode onDemand with rfl | rfl
    · exact exec_onDemand_log_ne (p := (.ondemandProx, s.cfg.measBase)) (by simp [onDemandCommands]) answers
    · exact exec_onDemand_log_ne (p := (.ondemandAls, s.cfg.measBase + 2#8)) (by simp [onDemandCommands]) answers

/-- Settles O47. -/
theorem responseFlagsByCommand : Obligations.ResponseFlagsByCommand := by
  intro i s t answers completed
  have leaves := CommandLeaves.of_exec answers
  exact ⟨leaves.rspFlags_mem completed, fun timeout => onDemand_of_opcode (leaves.onDemand_of_timeout completed timeout),
    exec_log_ne_of_busErr answers⟩

end Sys2Proof.Machine
end

section
/-! Two runs that differ in the acknowledgements of their writes only (R201, R202): each operation of a command, and so each
command, leaves states that agree but for the BUS_ERR bits and the acks in the log. -/

namespace Sys2Proof.Machine

open Sys2Proof

/-! ## The flags but for BUS_ERR (R200) -/

/-- The flags that do not report an acknowledgement. -/
def withoutBusErr (f : Flags) : Flags := f &&& 0b1110#4

theorem withoutBusErr_or (f f' : Flags) : withoutBusErr (f ||| f') = withoutBusErr f ||| withoutBusErr f' :=
  BitVec.and_or_distrib_right

theorem withoutBusErr_nackFlag (acked : Bool) : withoutBusErr (nackFlag acked) = 0#4 := by
  cases acked <;> rfl

theorem withoutBusErr_raiseUnlessAcked (acked : Bool) (f : Flags) :
    withoutBusErr (raiseUnlessAcked acked f) = withoutBusErr f := by
  rw [raiseUnlessAcked_eq_or, withoutBusErr_or, withoutBusErr_nackFlag, BitVec.or_zero]

theorem withoutBusErr_raiseFlag (e : Flags) {f f' : Flags} (flags : withoutBusErr f' = withoutBusErr f) :
    withoutBusErr (raiseFlag e f') = withoutBusErr (raiseFlag e f) := by
  rw [raiseFlag, raiseFlag, withoutBusErr_or, withoutBusErr_or, flags]

/-! ## A state without what reports an acknowledgement -/

section WithoutAcks

variable (s : State)

theorem clockAt_withoutAcks (k : Nat) : (withoutAcks s).env.clockAt k = s.env.clockAt k :=
  congrArg (BitVec.ofNat 32) (Env.counterAfter_congr (k + 1) rfl rfl rfl)

theorem withoutAcks_setShadow (x : Shadow) (v : Byte) :
    withoutAcks (s.setShadow x v) = (withoutAcks s).setShadow x v := by
  cases x <;> rfl

/-- A write leaves the same entry whatever its acknowledgement. -/
theorem withoutAcks_memWrite (addr v : Byte) : withoutAcks (memWrite addr v s).2 =
    (withoutAcks s).append (.write (withoutAcks s).cfg.devAddr7 addr v true) := by
  simp [memWrite_eq, withoutAcks, State.append, Env.dropAcks]

theorem withoutAcks_memRead (addr : Byte) (n : Nat) :
    withoutAcks (memRead addr n s).2 = (memRead addr n (withoutAcks s)).2 := by
  simp [memRead, withoutAcks, State.append, State.setEnv, Env.dropReplies, Env.replyAt]

theorem withoutAcks_clockNow : withoutAcks (clockNow s).2 = (clockNow (withoutAcks s)).2 := by
  rw [clockNow_eq, clockNow_eq, clockAt_withoutAcks]
  simp [withoutAcks, Env.dropClocks, Env.counterAfter, Env.advanceAt]

theorem withoutAcks_respond (f : Flags) :
    withoutAcks (s.respond f) = (withoutAcks s).respond (withoutBusErr f) := by
  have sticky : (s.sticky ||| f) &&& 0b1110#4 = s.sticky &&& 0b1110#4 ||| withoutBusErr f := withoutBusErr_or s.sticky f
  simp only [withoutAcks, State.respond, sticky]
  rfl

theorem withoutAcks_suspend (h : Byte) (f : Flags) :
    withoutAcks (s.suspend ⟨h, f⟩) = (withoutAcks s).suspend ⟨h, withoutBusErr f⟩ := rfl

end WithoutAcks

/-! ## States that agree -/

/-- The two states differ in what reports an acknowledgement only. -/
def AgreeButAcks (s s' : State) : Prop := withoutAcks s' = withoutAcks s

section States

variable {s s' : State}

/-- Whatever neither looks at an acknowledgement nor reports one. -/
theorem AgreeButAcks.map (agree : AgreeButAcks s s') (g : State → State)
    (commutes : ∀ u, withoutAcks (g u) = g (withoutAcks u)) : AgreeButAcks (g s) (g s') :=
  (commutes s').trans ((congrArg g agree).trans (commutes s).symm)

theorem AgreeButAcks.shadow_eq (agree : AgreeButAcks s s') (x : Shadow) : s'.shadow x = s.shadow x := by
  have same (u : State) : (withoutAcks u).shadow x = u.shadow x := by cases x <;> rfl
  rw [← same s', agree, same]

theorem AgreeButAcks.cfg_eq (agree : AgreeButAcks s s') : s'.cfg = s.cfg :=
  show (withoutAcks s').cfg = (withoutAcks s).cfg from congrArg State.cfg agree

theorem AgreeButAcks.t0_eq (agree : AgreeButAcks s s') : s'.t0 = s.t0 :=
  show (withoutAcks s').t0 = (withoutAcks s).t0 from congrArg State.t0 agree

theorem AgreeButAcks.replies_eq (agree : AgreeButAcks s s') : s'.env.replies = s.env.replies :=
  congrArg (fun u => u.env.replies) agree

theorem AgreeButAcks.replyAt_eq (agree : AgreeButAcks s s') (k : Nat) : s'.env.replyAt k = s.env.replyAt k :=
  congrArg (fun u => u.env.replyAt k) agree

theorem AgreeButAcks.clockAt_eq (agree : AgreeButAcks s s') (k : Nat) : s'.env.clockAt k = s.env.clockAt k := by
  rw [← clockAt_withoutAcks s', agree, clockAt_withoutAcks]

theorem AgreeButAcks.memWrite (agree : AgreeButAcks s s') (addr v : Byte) :
    AgreeButAcks (memWrite addr v s).2 (memWrite addr v s').2 := by
  rw [AgreeButAcks, withoutAcks_memWrite, withoutAcks_memWrite, agree]

theorem AgreeButAcks.memRead (agree : AgreeButAcks s s') (addr : Byte) (n : Nat) :
    AgreeButAcks (memRead addr n s).2 (memRead addr n s').2 :=
  agree.map (fun u => (Machine.memRead addr n u).2) fun u => withoutAcks_memRead u addr n

theorem AgreeButAcks.clockNow (agree : AgreeButAcks s s') : AgreeButAcks (clockNow s).2 (clockNow s').2 :=
  agree.map (fun u => (Machine.clockNow u).2) withoutAcks_clockNow

theorem AgreeButAcks.setHs (agree : AgreeButAcks s s') (h : HsState) : AgreeButAcks (s.setHs h) (s'.setHs h) :=
  agree.map (State.setHs · h) fun _ => rfl

theorem AgreeButAcks.setResult (agree : AgreeButAcks s s') (v : Half) : AgreeButAcks (s.setResult v) (s'.setResult v) :=
  agree.map (State.setResult · v) fun _ => rfl

/-- The sample of `T0` is the same in both. -/
theorem AgreeButAcks.sampleT0 (agree : AgreeButAcks s s') :
    AgreeButAcks ((Machine.clockNow s).2.setT0 (Machine.clockNow s).1)
      ((Machine.clockNow s').2.setT0 (Machine.clockNow s').1) := by
  have time : (Machine.clockNow s').1 = (Machine.clockNow s).1 := agree.clockAt_eq 0
  rw [time]
  exact agree.clockNow.map (State.setT0 · _) fun _ => rfl

theorem AgreeButAcks.respond (agree : AgreeButAcks s s') {f f' : Flags} (flags : withoutBusErr f' = withoutBusErr f) :
    AgreeButAcks (s.respond f) (s'.respond f') := by
  rw [AgreeButAcks, withoutAcks_respond, withoutAcks_respond, agree, flags]

theorem AgreeButAcks.suspend (agree : AgreeButAcks s s') (h : Byte) {f f' : Flags}
    (flags : withoutBusErr f' = withoutBusErr f) : AgreeButAcks (s.suspend ⟨h, f⟩) (s'.suspend ⟨h, f'⟩) := by
  rw [AgreeButAcks, withoutAcks_suspend, withoutAcks_suspend, agree, flags]

theorem AgreeButAcks.afterPoll (agree : AgreeButAcks s s') : AgreeButAcks (afterPoll s) (afterPoll s') := by
  rw [Machine.afterPoll, Machine.afterPoll, agree.cfg_eq]
  exact agree.memRead _ _

theorem AgreeButAcks.afterRound (agree : AgreeButAcks s s') : AgreeButAcks (afterRound s) (afterRound s') :=
  agree.afterPoll.clockNow

end States

/-! ## Commands in their execute stage that agree -/

/-- The flags differ in BUS_ERR only, and the states in what reports an acknowledgement. -/
structure RunsAgree (r r' : Run) : Prop where
  flags : withoutBusErr r'.flags = withoutBusErr r.flags
  state : AgreeButAcks r.state r'.state

section Runs

variable {r r' : Run}

theorem RunsAgree.modify (agree : RunsAgree r r') (g : State → State)
    (commutes : ∀ u, withoutAcks (g u) = g (withoutAcks u)) : RunsAgree (r.modify g) (r'.modify g) :=
  ⟨agree.flags, agree.state.map g commutes⟩

theorem RunsAgree.setShadow (agree : RunsAgree r r') (x : Shadow) (v : Byte) :
    RunsAgree (r.modify (State.setShadow · x v)) (r'.modify (State.setShadow · x v)) :=
  agree.modify _ fun u => withoutAcks_setShadow u x v

/-- A command makes no use of an acknowledgement but to raise BUS_ERR (R202). -/
theorem RunsAgree.write (agree : RunsAgree r r') (addr v : Byte) : RunsAgree (r.write addr v) (r'.write addr v) where
  flags := by
    rw [Run.write_eq, Run.write_eq, withoutBusErr_raiseUnlessAcked, withoutBusErr_raiseUnlessAcked, agree.flags]
  state := agree.state.memWrite addr v

theorem RunsAgree.fieldWrite (agree : RunsAgree r r') (x : Shadow) (addr mask code : Byte) :
    RunsAgree (r.fieldWrite x addr mask code) (r'.fieldWrite x addr mask code) := by
  rw [Run.fieldWrite_eq, Run.fieldWrite_eq, agree.state.shadow_eq]
  exact (agree.setShadow x _).write addr _

theorem RunsAgree.writeThresholds (agree : RunsAgree r r') (topH topL botH botL : Byte) (top bottom : Half) :
    RunsAgree (r.writeThresholds topH topL botH botL top bottom) (r'.writeThresholds topH topL botH botL top bottom) := by
  rw [Run.writeThresholds, Run.writeThresholds, agree.state.cfg_eq]
  exact (((agree.write _ _).write _ _).write _ _).write _ _

theorem RunsAgree.finish (agree : RunsAgree r r') : AgreeButAcks r.finish r'.finish :=
  agree.state.respond agree.flags

/-! ### The on-demand handshake (R171) -/

theorem RunsAgree.finalRead (agree : RunsAgree r r') (h : Byte) : AgreeButAcks (r.finalRead h) (r'.finalRead h) := by
  have read := agree.state.memRead h 2
  have reply : (memRead h 2 r'.state).1 = (memRead h 2 r.state).1 := agree.state.replyAt_eq 0
  rw [Run.finalRead, Run.finalRead, reply]
  split
  · exact read.respond (withoutBusErr_raiseFlag busErr agree.flags)
  · exact (read.setResult _).respond agree.flags

/-- By induction on the rounds: both loops see the same replies and the same clock, and so end in the same round. -/
theorem RunsAgree.pollLoop (k : Nat) (agree : RunsAgree r r') (h : Byte) :
    AgreeButAcks (pollLoop k h r) (pollLoop k h r') := by
  induction k generalizing r r' with
  | zero => exact agree.state.suspend h agree.flags
  | succ k ih =>
    have polled : withoutBusErr (raiseUnlessAcked (replyAcked (r.state.env.replyAt 0)) r'.flags) =
        withoutBusErr (raiseUnlessAcked (replyAcked (r.state.env.replyAt 0)) r.flags) := by
      rw [withoutBusErr_raiseUnlessAcked, withoutBusErr_raiseUnlessAcked, agree.flags]
    rw [pollLoop_succ, pollLoop_succ, agree.state.replyAt_eq, agree.state.clockAt_eq, agree.state.t0_eq]
    split
    · refine RunsAgree.finalRead ?_ h
      exact ⟨agree.flags, agree.state.afterPoll.setHs .ready⟩
    · split
      · refine RunsAgree.finalRead ?_ h
        exact ⟨withoutBusErr_raiseFlag timeoutErr polled, agree.state.afterRound.setHs .timedOut⟩
      · exact ih ⟨polled, agree.state.afterRound⟩

end Runs

/-! ## Every command -/

/-- The state with other acknowledgements to come. -/
def State.withAcks (s : State) (acks : List Bool) (drawn : Nat) : State :=
  { s with env := { s.env with acks := acks, acksDrawn := drawn } }

section Commands

variable {s t t' : State} {acks : List Bool} {n : Nat}

theorem AgreeButAcks.withAcks (s : State) (acks : List Bool) (n : Nat) : AgreeButAcks s (s.withAcks acks n) := rfl

theorem RunsAgree.start (agree : AgreeButAcks s t) : RunsAgree s.start t.start := ⟨rfl, agree⟩

theorem RunsAgree.onDemandTrigger (agree : AgreeButAcks s t) : RunsAgree (onDemandTrigger s) (onDemandTrigger t) := by
  have written := (RunsAgree.start (agree.setHs .triggered)).write s.cfg.aCmd s.cfg.cmdOndemand
  rw [Machine.onDemandTrigger, Machine.onDemandTrigger, agree.cfg_eq]
  exact ⟨written.flags, written.state.sampleT0⟩

theorem AgreeButAcks.onDemand (agree : AgreeButAcks s t) (h : Byte) : AgreeButAcks (onDemand h s) (onDemand h t) := by
  have trigger := RunsAgree.onDemandTrigger agree
  rw [Machine.onDemand, Machine.onDemand, pollBudget, pollBudget, trigger.state.replies_eq]
  exact trigger.pollLoop _ h

/-- A refused operand is refused in both runs (R88). -/
theorem AgreeButAcks.unlessZero (a : Half) (agree : AgreeButAcks t t') :
    AgreeButAcks (if a = 0#16 then doneWith s invalidOperand else t)
      (if a = 0#16 then doneWith (s.withAcks acks n) invalidOperand else t') := by
  split
  · exact (AgreeButAcks.withAcks s acks n).respond rfl
  · exact agree

/-- UPDATE makes no write, and so leaves the acknowledgements as they are (R152). -/
theorem exec_update_withAcks (s : State) (acks : List Bool) (n : Nat) : ∃ t, exec .update s = .next t ∧
    exec .update (s.withAcks acks n) = .next (t.withAcks acks n) := by
  refine ⟨_, exec_update_eq s, ?_⟩
  rw [exec_update_eq]
  have reply : (s.withAcks acks n).env.replyAt 0 = s.env.replyAt 0 := rfl
  rw [reply]
  cases s.env.replyAt 0 with
  | nack => rfl
  | data d =>
    rw [State.updatedBy_data, State.updatedBy_data, State.decodeBurst_eq_setBlues, State.decodeBurst_eq_setBlues]
    rfl

/-- BEGIN writes constants (R100). -/
theorem AgreeButAcks.execBegin (answers : exec .beginInit s = .next t)
    (answers' : exec .beginInit (s.withAcks acks n) = .next t') : AgreeButAcks t t' := by
  cases answers
  cases answers'
  have prox := ((RunsAgree.start (.withAcks s acks n)).setShadow .prox 0x00#8).write s.cfg.aProxCfg 0x00#8
  have ired := (prox.setShadow .ired 0x00#8).write s.cfg.aIredCfg 0x00#8
  have als := (ired.modify (fun u => (u.setShadow .als 0x00#8).setGfSel .fa200) fun _ => rfl).write s.cfg.aAlsCfg 0x00#8
  exact ((als.write _ _).write _ _).finish

/-- Both runs make the same writes, with the same values, and the same reads. -/
theorem AgreeButAcks.of_exec {i : Instr} (answers : exec i s = .next t)
    (answers' : exec i (s.withAcks acks n) = .next t') : AgreeButAcks t t' := by
  have start : RunsAgree s.start (s.withAcks acks n).start := .start (.withAcks s acks n)
  cases i with
  | beginInit => exact .execBegin answers answers'
  | update =>
    obtain ⟨u, updated, updated'⟩ := exec_update_withAcks s acks n
    cases updated.symm.trans answers
    cases updated'.symm.trans answers'
    exact .withAcks t acks n
  | setProxRate a =>
    cases (exec_setProxRate_eq a _).symm.trans answers
    cases (exec_setProxRate_eq a _).symm.trans answers'
    exact .unlessZero a (start.fieldWrite _ _ _ _).finish
  | setIntPersist a =>
    cases (exec_setIntPersist_eq a _).symm.trans answers
    cases (exec_setIntPersist_eq a _).symm.trans answers'
    exact .unlessZero a (start.fieldWrite _ _ _ _).finish
  | setAlsRate a =>
    cases (exec_setAlsRate_eq a _).symm.trans answers
    cases (exec_setAlsRate_eq a _).symm.trans answers'
    exact .unlessZero a (start.fieldWrite _ _ _ _).finish
  | proxOffsetEn | proxOffsetDis | proxIntDis | alsIntDis =>
    cases answers
    cases answers'
    exact (start.fieldWrite _ _ _ _).finish
  | proxIntEn a b | alsIntEn a b =>
    cases answers
    cases answers'
    exact ((start.fieldWrite _ _ _ _).writeThresholds _ _ _ _ a b).finish
  | colorCompEn p =>
    cases answers
    cases answers'
    exact ((start.write _ _).modify State.enableCc fun _ => rfl).finish
  | setAdcGain a =>
    cases answers
    cases answers'
    exact ((start.modify (State.setGfSel · (gainSel a)) fun _ => rfl).fieldWrite _ _ _ _).finish
  | ondemandProx | ondemandAls =>
    cases answers
    cases answers'
    exact (AgreeButAcks.withAcks s acks n).onDemand _
  | getProxRaw | getAlsRaw | getBlue1Raw | getBlue2Raw | getGainFactor | readShProx | readShIred | readShAls | readShInt
  | getStatus =>
    cases answers
    cases answers'
    exact ((AgreeButAcks.withAcks s acks n).setResult _).respond rfl

end Commands

/-- Settles O51: the second run is the first with other acknowledgements to come. -/
theorem dataPathIgnoresWriteAcks : Obligations.DataPathIgnoresWriteAcks :=
  fun _ _ _ _ _ _ answers answers' => AgreeButAcks.of_exec answers answers'

end Sys2Proof.Machine
end

section
/-! The statements of spec/70_reset_and_hazards.md: a power-on reset that meets a command at work (R230, R232), and the
millisecond counter, which no step and no reset sets back and whose values the clock samples are (R5, R211, R243). -/

namespace Sys2Proof.Machine

open Sys2Proof

/-! ## The inputs, apart from the host's events -/

/-- What is pending from the host has no part in the inputs that transactions and samples use up. -/
theorem Env.dropEntries_withEvents (e : Env) (events : List HostEvent) (new : List LogEntry) :
    { e with events := events }.dropEntries new = { e.dropEntries new with events := events } := by
  induction new generalizing e with
  | nil => rfl
  | cons x new ih =>
    rw [Env.dropEntries_cons, Env.dropEntries_cons, ← ih]
    cases x <;> rfl

/-- A block that begins to work has used up no input but the word it has accepted. -/
theorem Works.env_withEvents {s v u : State} (works : Works s v u) (events : List HostEvent) :
    { v.env with events := events } = { s.env with events := events } := by
  cases works <;> rfl

theorem inputsAfter_eq_dropEntries (e : Env) (new : List LogEntry) : inputsAfter e new = e.dropEntries new :=
  (e.dropEntries_eq new).symm

/-! ## A power-on reset meets the command at work (R232) -/

/-- The state of a cut command, from the inputs of the state in which the step began. -/
theorem Works.cutAfter_eq {s v u : State} (works : Works s v u) {n : Nat} {rest : List HostEvent}
    (pending : v.env.events = .reset n :: rest) {new : List LogEntry} (log : u.log = v.log ++ new) :
    v.cutAfter u n = { State.powerOn s.cfg with env := { inputsAfter s.env (new.take n) with events := rest } } := by
  rw [State.cutAfter_eq, State.entriesSince_eq log, works.cfg_eq, pending, List.tail_cons, inputsAfter_eq_dropEntries,
    ← Env.dropEntries_withEvents, works.env_withEvents, Env.dropEntries_withEvents]

/-- Settles O11, by what a power-on reset that meets a command can come to (`State.meetReset_cases`). -/
theorem resetMeetsTheCommandAtWork : Obligations.ResetMeetsTheCommandAtWork := by
  intro s v u n rest works pending
  obtain ⟨new, log, env⟩ := works.appendsAndDraws
  have met : step s = .next (v.meetReset u n) := by rw [works.step_eq, underReset_of_reset v u n rest pending]
  have behind : u.env.events.tail = rest := by rw [works.appendsAndDraws.events_eq, pending, List.tail_cons]
  rw [met]
  refine ⟨new, log, ?_⟩
  rcases v.meetReset_cases u n with ⟨within, cut⟩ | ⟨beyond, flying, nearer⟩ | ⟨beyond, done, responded⟩
  · rw [State.entriesSince_eq log] at within
    exact ⟨fun _ => by rw [cut, works.cutAfter_eq pending log], fun beyond => by omega, fun beyond => by omega⟩
  · rw [State.entriesSince_eq log] at beyond nearer
    exact ⟨fun within => by omega, fun _ done => absurd done flying, fun _ _ => by rw [nearer, behind]⟩
  · rw [State.entriesSince_eq log] at beyond
    exact ⟨fun within => by omega, fun _ _ => by rw [responded], fun _ flying => absurd done flying⟩

/-! ## The counter never runs back (R211, R243) -/

/-- The counter stands where the last of the clock samples has left it. -/
theorem Env.now_dropEntries (e : Env) (new : List LogEntry) :
    (e.dropEntries new).now = e.counterAfter (new.filterMap LogEntry.sample?).length := by
  rw [Env.dropEntries_eq]
  show Env.counterAfter _ _ = _
  simp

theorem Env.now_le_now_dropEntries (e : Env) (new : List LogEntry) : e.now ≤ (e.dropEntries new).now := by
  rw [Env.now_dropEntries]
  exact e.counterAfter_mono (Nat.zero_le _)

theorem Works.counterAfter_eq {s v u : State} (works : Works s v u) (k : Nat) :
    v.env.counterAfter k = s.env.counterAfter k := by
  cases works with
  | accepts | rejects => exact Env.counterAfter_congr k rfl rfl rfl
  | resumes => rfl

/-- No step sets the counter back: work advances it by what it samples, and a power-on reset leaves it (R211). -/
theorem step_now_le {s t : State} (taken : step s = .next t) : s.env.now ≤ t.env.now := by
  obtain ⟨-, rfl | ⟨-, -, rfl⟩ | ⟨v, u, works, outcome⟩⟩ := step_cases taken
  · exact Nat.le_refl _
  · exact Nat.le_refl _
  · have begins : v.env.now = s.env.now := works.counterAfter_eq 0
    obtain ⟨new, -, env⟩ := works.appendsAndDraws
    have ends : v.env.now ≤ u.env.now := by
      rw [env]
      exact v.env.now_le_now_dropEntries new
    rw [← begins]
    rcases outcome with ⟨-, rfl⟩ | ⟨n, rest, -, rfl⟩
    · exact ends
    · rcases v.meetReset_cases u n with ⟨-, cut⟩ | ⟨-, -, nearer⟩ | ⟨-, -, responded⟩
      · rw [cut, State.cutAfter_eq]
        exact v.env.now_le_now_dropEntries _
      · rw [nearer]
        exact ends
      · rw [responded]
        exact ends

/-! ## The clock samples of a command are the counter's values in order (R5, R67, R243) -/

/-- From `s` to `t` the log has grown, and its new clock samples are the next ones of the clock, in order. -/
def SamplesInOrder (s t : State) : Prop := ∃ (new : List LogEntry) (k : Nat),
  t.log = s.log ++ new ∧ new.filterMap LogEntry.sample? = (List.range k).map s.env.clockAt

@[simp] theorem sample?_readEntry (s : State) (addr : Byte) (n : Nat) (r : ReadReply) :
    (readEntry s addr n r).sample? = none := by
  cases r <;> rfl

@[simp] theorem sample?_writeEntry (s : State) (k : Nat) (addr v : Byte) : (writeEntry s k addr v).sample? = none := rfl

@[simp] theorem sample?_clock (t : Millis) : (LogEntry.clock t).sample? = some t := rfl

theorem SamplesInOrder.of_log_eq {s t : State} (log : t.log = s.log) : SamplesInOrder s t :=
  ⟨[], 0, by rw [log, List.append_nil], rfl⟩

theorem SamplesInOrder.setHs {s t : State} (so : SamplesInOrder s t) (h : HsState) : SamplesInOrder s (t.setHs h) := so

/-- A read between two clock samples, or after the last. -/
theorem SamplesInOrder.read {s t u : State} (so : SamplesInOrder s t) {v : State} {addr : Byte} {n : Nat} {r : ReadReply}
    (log : u.log = t.log ++ [readEntry v addr n r]) : SamplesInOrder s u := by
  obtain ⟨new, k, logSo, samples⟩ := so
  exact ⟨new ++ [readEntry v addr n r], k, by rw [log, logSo, List.append_assoc], by simp [samples]⟩

/-- A command that only writes samples no clock. -/
theorem WritesOnly.samplesInOrder {s t : State} (writes : WritesOnly s t) : SamplesInOrder s t := by
  obtain ⟨new, log, written⟩ := writes
  refine ⟨new, 0, log, List.filterMap_eq_nil_iff.2 fun x listed => ?_⟩
  cases x with
  | write => rfl
  | read | clock => cases written _ listed

/-! ### The on-demand handshake (R171) -/

theorem filterMap_sample?_roundEntries (s : State) (k : Nat) :
    (roundEntries s k).filterMap LogEntry.sample? = (List.range k).map s.env.clockAt := by
  induction k with
  | zero => rfl
  | succ k ih => simp [roundEntries_succ, ih, List.range_succ]

theorem SamplesInOrder.afterRounds (s : State) (k : Nat) : SamplesInOrder s (afterRounds s k) :=
  ⟨roundEntries s k, k, rfl, filterMap_sample?_roundEntries s k⟩

theorem SamplesInOrder.finalRead {s t : State} (so : SamplesInOrder s t) (f : Flags) (h : Byte) :
    SamplesInOrder s (Run.finalRead ⟨f, t⟩ h) := by
  rw [Run.finalRead_eq_doneWith]
  exact so.read rfl

/-- Each round samples the clock once, except the one that sees the flag; the final read does not sample it. -/
theorem SamplesInOrder.pollLoop (n : Nat) (h : Byte) (f : Flags) (s : State) : SamplesInOrder s (pollLoop n h ⟨f, s⟩) := by
  rcases pollLoop_cases n h f s with ⟨-, holds⟩ | ⟨j, -, -, -, ready⟩ | ⟨j, -, -, -, -, timedOut⟩
  · rw [holds]
    exact .afterRounds s n
  · have polled : SamplesInOrder s (afterPoll (Machine.afterRounds s j)) := by
      rw [afterPoll_eq]
      exact (SamplesInOrder.afterRounds s j).read rfl
    rw [ready]
    exact (polled.setHs .ready).finalRead _ h
  · rw [timedOut]
    exact ((SamplesInOrder.afterRounds s (j + 1)).setHs .timedOut).finalRead _ h

/-- The trigger's sample of `T0` comes before those of the polls. -/
theorem SamplesInOrder.of_triggered {s t : State} (so : SamplesInOrder s.triggered t) : SamplesInOrder s t := by
  obtain ⟨new, k, log, samples⟩ := so
  refine ⟨[writeEntry s 0 s.cfg.aCmd s.cfg.cmdOndemand, .clock (s.env.clockAt 0)] ++ new, k + 1,
    by simp [log, State.triggered], ?_⟩
  have later : (List.range k).map s.triggered.env.clockAt = (List.range k).map fun j => s.env.clockAt (j + 1) := by
    simp [State.triggered, Nat.add_comm 1]
  simp [samples, later, List.range_succ_eq_map, List.filterMap_cons, Function.comp_def]

theorem SamplesInOrder.of_onDemand {s t : State} {p : Instr × Byte} (listed : p ∈ onDemandCommands s.cfg)
    (answers : exec p.1 s = .next t) : SamplesInOrder s t := by
  cases (exec_onDemand_eq s listed).symm.trans answers
  exact .of_triggered (.pollLoop _ _ _ s.triggered)

/-! ### Every command -/

/-- UPDATE is one burst read (R152). -/
theorem SamplesInOrder.of_update {s t : State} (answers : exec .update s = .next t) : SamplesInOrder s t := by
  cases (exec_update_eq s).symm.trans answers
  have cached : (s.updatedBy (s.env.replyAt 0)).log = s.log := by
    cases s.env.replyAt 0 with
    | nack => rfl
    | data d => rw [State.updatedBy_data, State.decodeBurst_eq_setBlues, State.setBlues_log, State.setProxAls_log]
  exact (SamplesInOrder.of_log_eq cached).read rfl

/-- By family: a command writes only (R127), reads a burst, answers a value, or is a handshake. -/
theorem SamplesInOrder.of_exec {s t : State} {i : Instr} (answers : exec i s = .next t) : SamplesInOrder s t := by
  cases i with
  | update => exact .of_update answers
  | ondemandProx => exact .of_onDemand (p := (.ondemandProx, s.cfg.measBase)) (by simp [onDemandCommands]) answers
  | ondemandAls => exact .of_onDemand (p := (.ondemandAls, s.cfg.measBase + 2#8)) (by simp [onDemandCommands]) answers
  | getProxRaw | getAlsRaw | getBlue1Raw | getBlue2Raw | getGainFactor | readShProx | readShIred | readShAls | readShInt
  | getStatus =>
    cases answers
    exact .of_log_eq rfl
  | _ => exact WritesOnly.samplesInOrder (configurationNeverReadsBack _ s t (by simp [opcodeOf]) answers)

theorem Works.samplesInOrder {s v u : State} (works : Works s v u) : SamplesInOrder v u := by
  cases works with
  | accepts w rest i _ presents legal answers => exact .of_exec answers
  | rejects => exact .of_log_eq rfl
  | resumes c => exact .pollLoop _ c.addr c.flags s

/-- The counter at the next `k` clock samples. -/
def Env.counts (e : Env) (k : Nat) : List Nat := (List.range k).map fun j => e.counterAfter (j + 1)

theorem Env.map_clockAt_range (e : Env) (k : Nat) :
    (List.range k).map e.clockAt = (e.counts k).map (BitVec.ofNat 32) := by
  simp [Env.counts, Env.clockAt]

theorem Env.counts_pairwise (e : Env) (k : Nat) : (e.counts k).Pairwise (· ≤ ·) := by
  rw [Env.counts, List.pairwise_map]
  exact List.pairwise_lt_range.imp fun before => e.counterAfter_mono (by omega)

theorem Env.counts_between (e : Env) (k : Nat) : ∀ n ∈ e.counts k, e.now ≤ n ∧ n ≤ e.counterAfter k := by
  intro n listed
  obtain ⟨j, within, rfl⟩ := List.mem_map.1 listed
  exact ⟨e.counterAfter_mono (Nat.zero_le _), e.counterAfter_mono (List.mem_range.1 within)⟩

/-- Settles O12: a step only advances the counter, and the samples of a command are where it stands in turn. -/
theorem clockNeverRunsBack : Obligations.ClockNeverRunsBack := by
  refine ⟨fun s t => step_now_le, fun s v u works => ?_⟩
  obtain ⟨new, k, log, samples⟩ := works.samplesInOrder
  obtain ⟨new', log', env⟩ := works.appendsAndDraws
  obtain rfl : new = new' := List.append_cancel_left (log.symm.trans log')
  have stands : u.env.now = v.env.counterAfter k := by
    rw [env, Env.now_dropEntries, samples, List.length_map, List.length_range]
  have begins : v.env.now = s.env.now := works.counterAfter_eq 0
  refine ⟨new, v.env.counts k, log, samples.trans (v.env.map_clockAt_range k), v.env.counts_pairwise k, ?_⟩
  rw [← begins, stands]
  exact v.env.counts_between k

end Sys2Proof.Machine
end
